-- ==== Sys2Proof/Word.lean ====
section
/-! DEFINITION. The bytes and words of the SD64 (spec 10, R195). -/

namespace Sys2Proof

/-- A byte, as host memory and the staging buffers hold it. -/
abbrev Byte := BitVec 8

/-- A 32-bit word of the host bus and of the register window (R195). -/
abbrev Word := BitVec 32

/-- The number of a request slot, 0 to 47 (R78). -/
abbrev SlotId := Fin 48

/-- The number of a stream handle, 0 to 63 (R1). -/
abbrev Handle := Fin 64

end Sys2Proof
end

