-- ==== Sys2Proof/Config.lean ====
section
/-! DEFINITION. What is fixed in every SD64: the sizes and limits of the manual, and, as opaque constants, the two
digest algorithms' initial values and block functions, which the manual treats as given (00_scope, R122). -/

namespace Sys2Proof.Config

/-- R122: the initial value of D256, 32 bytes. Opaque: the manual gives no value (DESIGN CHOICE, log entry 4; safe). -/
opaque initialD256 : Vector Byte 32

/-- R122: the initial value of D512, 64 bytes. Opaque (DESIGN CHOICE, log entry 4; safe). -/
opaque initialD512 : Vector Byte 64

/-- R122: the block function of D256. It reads and writes the first 32 bytes of the chaining-state storage only.
Opaque (DESIGN CHOICE, log entry 4; safe). -/
opaque blockD256 : Vector Byte 32 → Vector Byte 64 → Vector Byte 32

/-- R122: the block function of D512. Opaque (DESIGN CHOICE, log entry 4; safe). -/
opaque blockD512 : Vector Byte 64 → Vector Byte 128 → Vector Byte 64

/-- R3: the largest position in a stream, 2^48. -/
def maxPosition : Nat := 2 ^ 48

/-- R31: the largest length of a FRAGMENT in bytes. -/
def maxLength : Nat := 1048576

/-- R24, R46: the largest hold limit. -/
def maxHoldLimit : Nat := 16

/-- R42, R47: the device hold cap. -/
def holdCap : Nat := 40

/-- R158: the number of records the Completion Queue has room for. -/
def queueCapacity : Nat := 64

/-- R112: the number of consecutive RETRY answers that is the retry limit. -/
def retryLimit : Nat := 16

/-- R40: ticks in a millisecond. -/
def ticksPerMs : Nat := 1000

/-- R104: bytes in a staging buffer, and the size of the largest burst (R108). -/
def burstBytes : Nat := 64

/-- R144, R198: the tag of a context record. -/
def recordTag : Word := 0x57430001

/-- R82: the value NONE that a CLAIM read returns when it claims nothing. -/
def noSlot : Word := 0xFFFFFFFF

end Sys2Proof.Config
end

