-- ==== Sys2Proof/Syntax.lean ====
section
/-! DEFINITION. The commands of the SD64: one constructor of `Instr` for each row of spec/opcode_table.json. Beside
them the raw access of the host bus to the register window (R178) and the registers of the window (R201), from which
the window's commands come. -/

namespace Sys2Proof

/-- R178, R179: the size of a host bus access to the window. -/
inductive AccessSize where
  | byte
  | half
  | word
deriving DecidableEq, Repr

/-- R179: the number of bytes of an access. -/
def AccessSize.bytes : AccessSize → Nat
  | .byte => 1
  | .half => 2
  | .word => 4

/-- Whether an access reads or writes. -/
inductive Direction where
  | read
  | write
deriving DecidableEq, Repr

/-- R178: one access of the host bus to the 4 KiB window: its direction, its size, its byte offset in the window and,
for a write, its data. -/
structure Access where
  direction : Direction
  size : AccessSize
  offset : BitVec 12
  data : Word
deriving DecidableEq, Repr

/-- R201: what an aligned offset of the window names. -/
inductive Register where
  | control
  | status
  | timebase
  | cqConfig
  | intStatus
  | intEnable
  | protoErr
  | protoAddr
  | claim
  | returnSlot
  | post
  | cqPop
  | cqHead (k : Fin 4)
  | streamSelect
  | streamInfo (k : Fin 4)
  | digestSelect
  | digestLen
  | digest (k : Fin 16)
  | slotWord (slot : SlotId) (word : Fin 8)
deriving DecidableEq, Repr

/-- The commands, in the order of spec/opcode_table.json. A window write carries the whole 32-bit value written (log
entry 8). The takes of the Dispatcher carry nothing: the request is in the slot at the head of the Post Queue. -/
inductive Instr where
  /-- CLAIM (R82): a 32-bit read of CLAIM. -/
  | claim
  /-- RETURN (R86): a write of RETURN. -/
  | returnSlot (value : Word)
  /-- POST (R87): a write of POST. -/
  | post (value : Word)
  /-- SLOT_WORD_WRITE (R84): a 32-bit write of word `word` of slot `slot`. -/
  | slotWordWrite (slot : SlotId) (word : Fin 8) (value : Word)
  /-- CQ_POP (R166): a write of CQ_POP. -/
  | cqPop (value : Word)
  /-- DISPATCH (R186): a CONTROL write with CLEAR at 0. -/
  | dispatch (value : Word)
  /-- ENGINE_CLEAR (R187): a CONTROL write with CLEAR at 1. -/
  | engineClear (value : Word)
  /-- TIMEBASE_WRITE (R189): a write of TIMEBASE. -/
  | timebaseWrite (value : Word)
  /-- CQ_CONFIG_WRITE (R168): a write of CQ_CONFIG. -/
  | cqConfigWrite (value : Word)
  /-- CQ_CAUSE_CLEAR (R172): a write of INT_STATUS with the CQ bit at 1. -/
  | cqCauseClear (value : Word)
  /-- PROTO_CAUSE_CLEAR (R174): a write of INT_STATUS with the PROTO bit at 1. -/
  | protoCauseClear (value : Word)
  /-- READY_CAUSE_CLEAR (R174): a write of INT_STATUS with the READY bit at 1. -/
  | readyCauseClear (value : Word)
  /-- INT_ENABLE_WRITE (R174): a write of INT_ENABLE. -/
  | intEnableWrite (value : Word)
  /-- PROTO_ERR_CLEAR (R183): a write of PROTO_ERR with the clear bit at 1. -/
  | protoErrClear (value : Word)
  /-- STREAM_SELECT (R192): a write of STREAM_SELECT. -/
  | streamSelect (value : Word)
  /-- DIGEST_SELECT (R193): a write of DIGEST_SELECT. -/
  | digestSelect (value : Word)
  /-- BAD_WIDTH (R179): an access that is no whole word at a multiple of 4. -/
  | badWidth (direction : Direction) (size : AccessSize) (offset : BitVec 12)
  /-- BAD_ADDRESS (R180): a well-formed access to an unmapped offset. -/
  | badAddress (direction : Direction) (offset : BitVec 12)
  /-- READ_ONLY (R181): a well-formed write to a read-only register. -/
  | readOnly (offset : BitVec 12)
  /-- RESET_ASSERT (R194): the RESET pin is asserted. -/
  | resetAssert
  /-- RESET_RELEASE (R185): the RESET pin is released. -/
  | resetRelease
  /-- START_UP_SWEEP_END (R185). -/
  | startUpSweepEnd
  /-- SWEEP_RSS (R98): the clearing sweep reaches the RSS. -/
  | sweepRss
  /-- SWEEP_STREAM_TABLE (R28): the clearing sweep reaches the Stream Table. -/
  | sweepStreamTable
  /-- SWEEP_ABSORB_PATH (R119): the clearing sweep reaches the AP, the DC and the arbiter. -/
  | sweepAbsorbPath
  /-- SWEEP_CTU (R156): the clearing sweep reaches the CTU. -/
  | sweepCtu
  /-- SWEEP_CU (R176): the clearing sweep reaches the CU. -/
  | sweepCu
  /-- CLEARING_SWEEP_END (R187). -/
  | clearingSweepEnd
  /-- TICK (R189): the EC produces a tick. -/
  | tick
  /-- GAP_TIMER_EXPIRY (R60): the expiring tick is taken at one stream's gap timer. -/
  | gapTimerExpiry (handle : Handle)
  /-- COALESCING_TIMER_EXPIRY (R171): the expiring tick is taken at the coalescing timer. -/
  | coalescingTimerExpiry
  /-- OPEN (R25): the Dispatcher takes an OPEN request. -/
  | openRequest
  /-- FRAGMENT (R30): the Dispatcher takes a FRAGMENT request. -/
  | fragmentRequest
  /-- ABORT (R68): the Dispatcher takes an ABORT request. -/
  | abortRequest
  /-- RELEASE (R69): the Dispatcher takes a RELEASE request. -/
  | releaseRequest
  /-- EXPORT (R140): the Dispatcher takes an EXPORT request. -/
  | exportRequest
  /-- IMPORT (R142): the Dispatcher takes an IMPORT request. -/
  | importRequest
  /-- UNKNOWN_KIND (R91): the Dispatcher takes a request of no known kind. -/
  | unknownKind
  /-- ITEM_TAKE (R101): the AP takes the head of the Ready Queue. -/
  | itemTake
  /-- BURST_OK (R111, R147): the host bus answers OK. `lanes` holds the bytes of a read burst from its lowest address
  up; a burst of n bytes takes the first n of them, and a write burst takes none (log entry 5). -/
  | burstOk (lanes : Vector Byte 64)
  /-- BURST_RETRY (R112, R147): the host bus answers RETRY. -/
  | burstRetry
  /-- RETRY_LIMIT (R112, R147): the host bus answers RETRY for the sixteenth consecutive time. -/
  | retryLimit
  /-- BURST_ERROR (R113, R147): the host bus answers ERROR. -/
  | burstError
  /-- DRAIN_END (R127): the DC's drain ends at the OU. -/
  | drainEnd
  /-- FINALIZATION_END (R132): the DC's finalization ends at the OU. -/
  | finalizationEnd
  /-- FAULT_REPORT (R114): the AP reports the active item's failure. -/
  | faultReport
  /-- CUT_END (R117): the AP reports the end of a cut item. -/
  | cutEnd
  /-- TRANSFER_START (R143): the CTU starts the transfer at the head of its queue. -/
  | transferStart
deriving DecidableEq, Repr

end Sys2Proof
end

