-- ==== Sys2Proof/Machine/State.lean ====
section
/-! DEFINITION. The state of the SD64, block by block as the manual gives each block its own (00_scope, "Functional
overview"), the reasons a step can stop, and the state after power-on reset. -/

namespace Sys2Proof.Machine

/-- R184: the engine state. -/
inductive EngineState where
  | init
  | run
  | clearing
deriving DecidableEq, Repr

/-- R187: which blocks the clearing sweep has reached. All false while no engine clear is in progress (log entry 15). -/
structure Swept where
  rss : Bool
  streamTable : Bool
  absorbPath : Bool
  ctu : Bool
  cu : Bool
deriving DecidableEq, Repr

/-- Engine Control (spec 09). -/
structure EngineControl where
  engine : EngineState
  /-- The RESET pin is asserted (R184, R185). -/
  resetPin : Bool
  /-- R186. -/
  dispatchEnable : Bool
  /-- R189. -/
  prescaler : BitVec 8
  swept : Swept
deriving DecidableEq, Repr

/-- R182: the causes of a protocol error. -/
inductive ProtocolError where
  | badWidth
  | badAddress
  | readOnly
  | slotNotClaimed
  | badSlot
  | cqEmptyPop
deriving DecidableEq, Repr

/-- R182: what the protocol error capture holds when it is not empty. -/
structure Capture where
  cause : ProtocolError
  offset : BitVec 12
deriving DecidableEq, Repr

/-- Host Bus Interface (spec 09, 08.6). The CQ cause of INT_STATUS belongs to the Completion Unit (R158). -/
structure HostInterface where
  /-- The PROTO bit of INT_STATUS (R174). -/
  protoCause : Bool
  /-- The READY bit of INT_STATUS (R174). -/
  readyCause : Bool
  /-- INT_ENABLE: bit 0 CQ, bit 1 PROTO, bit 2 READY (R201). -/
  intEnable : BitVec 3
  capture : Option Capture
  overrun : Bool
  streamSelect : Word
  streamInfo : Vector Word 4
  digestSelect : Word
  digestLen : Word
  digest : Vector Word 16
  /-- The model's own field: the data that the last window read command (CLAIM, or a refused read) returned on the
  host bus (log entry 6). -/
  readData : Word
deriving DecidableEq, Repr

/-- R79: the slot states. -/
inductive SlotState where
  | free
  | claimed
  | posted
  | held
  | ready
  | active
  | waiting
  | backlog
deriving DecidableEq, Repr

/-- Request Slot Store (spec 04). -/
structure SlotStore where
  words : Vector (Vector Word 8) 48
  states : Vector SlotState 48
  freeQueue : List SlotId
  postQueue : List SlotId
deriving DecidableEq, Repr

/-- R122: the digest algorithms. -/
inductive Algorithm where
  | d256
  | d512
deriving DecidableEq, Repr

/-- R11: the stream states. -/
inductive StreamState where
  | free
  | opened
  | ending
  | final
  | faulted
  | aborting
  | exporting
  | importing
deriving DecidableEq, Repr

/-- R9: the fault codes. -/
inductive FaultCode where
  | gapTimeout
  | busError
  | retryLimit
deriving DecidableEq, Repr

/-- R2: a stream context. -/
structure StreamContext where
  state : StreamState
  generation : BitVec 8
  algorithm : Option Algorithm
  holdLimit : Nat
  /-- In milliseconds. -/
  gapTimeout : BitVec 16
  declaredEnd : Option Nat
  frontier : Nat
  absorbed : Nat
  residue : List Byte
  /-- 64 bytes of chaining-state storage (R122). -/
  chaining : Vector Byte 64
  digest : Option (List Byte)
  faultCode : Option FaultCode
  /-- Ascending by offset; each entry refers to its HELD slot (R10). -/
  holdList : List SlotId
  inFlight : Nat
  pendingControl : Option SlotId
  /-- None: stopped. Some n: running with n ticks left (R58). -/
  gapTimer : Option Nat
deriving DecidableEq, Repr

/-- R23: the values a context takes when its stream returns to stream FREE. -/
def freeContext (generation : BitVec 8) : StreamContext where
  state := .free
  generation := generation
  algorithm := none
  holdLimit := 0
  gapTimeout := 0
  declaredEnd := none
  frontier := 0
  absorbed := 0
  residue := []
  chaining := Vector.replicate 64 0
  digest := none
  faultCode := none
  holdList := []
  inFlight := 0
  pendingControl := none
  gapTimer := none

/-- Ordering Unit: the Stream Table with the hold lists and the Gap Timer Bank, and the device held count (spec 01 to
03). -/
structure OrderingUnit where
  streams : Vector StreamContext 64
  heldCount : Nat
deriving DecidableEq, Repr

/-- R49, R100: the kinds of item. -/
inductive ItemKind where
  | fragment
  | finalizeOnly
deriving DecidableEq, Repr

/-- R49: an item of the Ready Queue. -/
structure ReadyItem where
  slot : SlotId
  stream : Handle
  kind : ItemKind
deriving DecidableEq, Repr

/-- R100: the outcome of a failed fetch or transfer. -/
inductive BusFailure where
  | busError
  | retryLimit
deriving DecidableEq, Repr

/-- R100: the active item. -/
structure ActiveItem where
  slot : SlotId
  stream : Handle
  kind : ItemKind
  nextAddress : Word
  toFetch : Nat
  toDrain : Nat
  retryCount : Nat
  cut : Bool
  failure : Option BusFailure
deriving DecidableEq, Repr

/-- R104: the states of a staging buffer. -/
inductive BufferState where
  | empty
  | filling
  | full
  | draining
deriving DecidableEq, Repr

/-- R104: a staging buffer with the bytes it holds. -/
structure Buffer where
  state : BufferState
  data : List Byte
deriving DecidableEq, Repr

/-- An EMPTY staging buffer. -/
def Buffer.cleared : Buffer := { state := .empty, data := [] }

/-- R100: the two staging buffers. -/
inductive BufferId where
  | a
  | b
deriving DecidableEq, Repr

/-- Absorb Path (spec 05, 02.5). -/
structure AbsorbPath where
  readyQueue : List ReadyItem
  active : Option ActiveItem
  bufferA : Buffer
  bufferB : Buffer
  /-- The buffer that the next burst granted fills (R105; log entry 21). -/
  nextFill : BufferId
  /-- The buffer filled earliest among those not yet drained (R106; log entry 21). -/
  nextDrain : BufferId
deriving DecidableEq, Repr

/-- R124: the modes of the Digest Core. -/
inductive DigestMode where
  | idle
  | draining
  | finalizing
deriving DecidableEq, Repr

/-- Digest Core (spec 06): its mode and its working copy. -/
structure DigestCore where
  mode : DigestMode
  algorithm : Option Algorithm
  residue : List Byte
  chaining : Vector Byte 64
deriving DecidableEq, Repr

/-- R124: the Digest Core IDLE with no FRAGMENT item active. -/
def DigestCore.atRest : DigestCore :=
  { mode := .idle, algorithm := none, residue := [], chaining := Vector.replicate 64 0 }

/-- R143: the two kinds of transfer. -/
inductive TransferKind where
  | exporting
  | importing
deriving DecidableEq, Repr

/-- R143: an entry of the transfer queue. -/
structure Transfer where
  slot : SlotId
  stream : Handle
  kind : TransferKind
deriving DecidableEq, Repr

/-- R143: the active transfer: its entry, the index of its current burst (1 to 4) and that burst's retry count. -/
structure ActiveTransfer where
  transfer : Transfer
  burst : Nat
  retryCount : Nat
deriving DecidableEq, Repr

/-- Context Transfer Unit (spec 07). -/
structure TransferUnit where
  queue : List Transfer
  active : Option ActiveTransfer
  record : Vector Byte 256
deriving DecidableEq, Repr

/-- R108: the requesters of the bus master. -/
inductive Requester where
  | fetch
  | ctu
deriving DecidableEq, Repr

/-- R108: a burst on the host bus. `data` holds the bytes of a write burst and is empty for a read. -/
structure Burst where
  requester : Requester
  direction : Direction
  address : Word
  length : Nat
  data : List Byte
deriving DecidableEq, Repr

/-- Bus Master Arbiter (spec 05.4): the burst on the bus, the waiting requests, and the requester granted last. -/
structure BusArbiter where
  burst : Option Burst
  fetchWaiting : Bool
  ctuWaiting : Bool
  lastGranted : Requester
deriving DecidableEq, Repr

/-- R160: the completion statuses. -/
inductive Status where
  | ok
  | okFinal
  | badRequest
  | badAlign
  | noHandle
  | noStream
  | stale
  | wrongState
  | notQuiescent
  | overlap
  | beyondEnd
  | endConflict
  | holdFull
  | abandoned
  | gapTimeout
  | busError
  | retryLimit
  | badContext
deriving DecidableEq, Repr

/-- R159: what a record says of the stream it names. -/
structure StreamRef where
  state : StreamState
  handle : Handle
  generation : BitVec 8
  absorbed : Nat
deriving DecidableEq, Repr

/-- R159: a completion record. `stream` is none when the record names no stream (R160). -/
structure Record where
  tag : Word
  status : Status
  kind : Byte
  slot : SlotId
  stream : Option StreamRef
deriving DecidableEq, Repr

/-- R158, R164: an entry of the Completion Backlog. -/
structure BacklogEntry where
  slot : SlotId
  record : Record
deriving DecidableEq, Repr

/-- Completion Unit (spec 08). -/
structure CompletionUnit where
  queue : List Record
  backlog : List BacklogEntry
  /-- T (R168). -/
  threshold : Nat
  /-- W (R168). -/
  holdTime : BitVec 16
  /-- The coalescing timer. None: stopped. Some n: running with n ticks left (R169). -/
  timer : Option Nat
  /-- The CQ bit of INT_STATUS. -/
  cqCause : Bool
deriving DecidableEq, Repr

/-- The state of the SD64, by the block that owns each part, and the queue of the commands that wait. -/
structure State where
  ec : EngineControl
  hbi : HostInterface
  rss : SlotStore
  ou : OrderingUnit
  ap : AbsorbPath
  dc : DigestCore
  ctu : TransferUnit
  bma : BusArbiter
  cu : CompletionUnit
  /-- The model's own field: the commands that wait, first in, first out (log entry 1). -/
  pending : List Instr
deriving DecidableEq, Repr

/-- The faults a step can stop with: none. The manual has the SD64 answer every misuse and every bus failure and go on
(R179 to R182, R61, R149, R150), so no meaning raises one. Safe: nothing is lost, since no behaviour of the manual is a
stop. -/
inductive Fault where
deriving DecidableEq, Repr

/-- The refusals of a step. -/
inductive Refusal where
  /-- Raised by an arm of `exec` for a command that has no meaning yet, by its mnemonic. No arm does. Safe: the model
  would stop where the hardware goes on. -/
  | notModelled (mnemonic : String)
deriving DecidableEq, Repr

/-- What a meaning answers. -/
abbrev Result := Host.Outcome State Fault Refusal

/-- No block swept: no engine clear is in progress. -/
def Swept.none : Swept :=
  { rss := false, streamTable := false, absorbPath := false, ctu := false, cu := false }

/-- R194: Engine Control when the RESET pin is asserted. -/
def EngineControl.reset : EngineControl :=
  { engine := .init, resetPin := true, dispatchEnable := true, prescaler := 0, swept := Swept.none }

/-- R177, R194: the Host Bus Interface when the RESET pin is asserted. `readData` is the model's own field: 0, DESIGN
CHOICE (log entry 6; unsafe). -/
def HostInterface.reset : HostInterface :=
  { protoCause := false, readyCause := false, intEnable := 0, capture := none, overrun := false,
    streamSelect := 0, streamInfo := Vector.replicate 4 0, digestSelect := 0, digestLen := 0,
    digest := Vector.replicate 16 0, readData := 0 }

/-- R97: the Request Slot Store when the RESET pin is asserted. -/
def SlotStore.reset : SlotStore :=
  { words := Vector.replicate 48 (Vector.replicate 8 0), states := Vector.replicate 48 .free,
    freeQueue := List.finRange 48, postQueue := [] }

/-- R27: the Ordering Unit when the RESET pin is asserted. -/
def OrderingUnit.reset : OrderingUnit :=
  { streams := Vector.replicate 64 (freeContext 0), heldCount := 0 }

/-- R120, R55: the Absorb Path when the RESET pin is asserted. -/
def AbsorbPath.reset : AbsorbPath :=
  { readyQueue := [], active := none, bufferA := Buffer.cleared, bufferB := Buffer.cleared, nextFill := .a,
    nextDrain := .a }

/-- R157: the Context Transfer Unit when the RESET pin is asserted. -/
def TransferUnit.reset : TransferUnit :=
  { queue := [], active := none, record := Vector.replicate 256 0 }

/-- R109, R120: the Bus Master Arbiter when the RESET pin is asserted. -/
def BusArbiter.reset : BusArbiter :=
  { burst := none, fetchWaiting := false, ctuWaiting := false, lastGranted := .ctu }

/-- R177: the Completion Unit when the RESET pin is asserted. -/
def CompletionUnit.reset : CompletionUnit :=
  { queue := [], backlog := [], threshold := 1, holdTime := 0, timer := none, cqCause := false }

/-- R194: every block at its power-on values, the RESET pin still asserted, and no command waiting (log entry 3). -/
def State.reset : State :=
  { ec := EngineControl.reset, hbi := HostInterface.reset, rss := SlotStore.reset, ou := OrderingUnit.reset,
    ap := AbsorbPath.reset, dc := DigestCore.atRest, ctu := TransferUnit.reset, bma := BusArbiter.reset,
    cu := CompletionUnit.reset, pending := [] }

end Sys2Proof.Machine
end

