-- ==== Sys2Proof/Machine/Operands.lean ====
section
/-! DEFINITION. The operands of the SD64's work: how bytes and quantities are packed into words (R195), the fields of
a request slot (R196), the ranges of fragments, bursts (R102, R146), and the context record (R198, R199). -/

namespace Sys2Proof.Machine

/-- R195: byte `k` of a word. -/
def byteOf (w : Word) (k : Nat) : Byte := w.extractLsb' (8 * k) 8

/-- R195: the word packed from four bytes, the byte at the lowest address first. -/
def packWord (b0 b1 b2 b3 : Byte) : Word := b3 ++ b2 ++ b1 ++ b0

/-- R195: a position in two words, the lower 32 bits first, read as one 64-bit number. -/
def wide (lower upper : Word) : Nat := lower.toNat + 2 ^ 32 * upper.toNat

/-- R195: the lower word of a wide quantity. -/
def lowerWord (n : Nat) : Word := BitVec.ofNat 32 n

/-- R195: the upper word of a wide quantity. -/
def upperWord (n : Nat) : Word := BitVec.ofNat 32 (n / 2 ^ 32)

/-! ### Request slots (R196) -/

/-- Word `k` of slot `n` (R78). -/
def State.slotWord (s : State) (n : SlotId) (k : Fin 8) : Word := s.rss.words[n][k]

/-- The state of slot `n` (R79). -/
def State.slotState (s : State) (n : SlotId) : SlotState := s.rss.states[n]

/-- w0 bits 7:0. -/
def State.kindByte (s : State) (n : SlotId) : Byte := (s.slotWord n 0).extractLsb' 0 8

/-- w0 bits 15:8, all eight flag bits. -/
def State.flagBits (s : State) (n : SlotId) : Byte := (s.slotWord n 0).extractLsb' 8 8

/-- w0 bit 8. -/
def State.lastFlag (s : State) (n : SlotId) : Bool := (s.slotWord n 0).getLsbD 8

/-- w0 bit 9. -/
def State.endPresentFlag (s : State) (n : SlotId) : Bool := (s.slotWord n 0).getLsbD 9

/-- w0 bits 23:16. -/
def State.handleByte (s : State) (n : SlotId) : Byte := (s.slotWord n 0).extractLsb' 16 8

/-- w0 bits 31:24. -/
def State.generationByte (s : State) (n : SlotId) : BitVec 8 := (s.slotWord n 0).extractLsb' 24 8

/-- w1. -/
def State.tag (s : State) (n : SlotId) : Word := s.slotWord n 1

/-- w2 and w3: a FRAGMENT's offset or an OPEN's declared end, as one 64-bit number (R24, R29). -/
def State.position (s : State) (n : SlotId) : Nat := wide (s.slotWord n 2) (s.slotWord n 3)

/-- w4. -/
def State.fragmentLength (s : State) (n : SlotId) : Nat := (s.slotWord n 4).toNat

/-- The offset at which a fragment ends: its offset plus its length. -/
def State.fragmentEnd (s : State) (n : SlotId) : Nat := s.position n + s.fragmentLength n

/-- w5. -/
def State.hostAddress (s : State) (n : SlotId) : Word := s.slotWord n 5

/-- w6 bits 7:0: 1 is D256, 2 is D512, any other value names no algorithm. -/
def State.requestAlgorithm (s : State) (n : SlotId) : Option Algorithm :=
  let b := (s.slotWord n 6).extractLsb' 0 8
  if b = 1 then some .d256 else if b = 2 then some .d512 else none

/-- w6 bits 15:8. -/
def State.requestHoldLimit (s : State) (n : SlotId) : Nat := ((s.slotWord n 6).extractLsb' 8 8).toNat

/-- w6 bits 31:16. -/
def State.requestGapTimeout (s : State) (n : SlotId) : BitVec 16 := (s.slotWord n 6).extractLsb' 16 16

/-- The slot that a RETURN or POST value names: the whole word is the slot number (R86, R87). -/
def slotOfWord (value : Word) : Option SlotId :=
  if h : value.toNat < 48 then some ⟨value.toNat, h⟩ else none

/-- The handle that a byte names: none when it is 64 or more (R14). -/
def handleOfByte (b : Byte) : Option Handle :=
  if h : b.toNat < 64 then some ⟨b.toNat, h⟩ else none

/-- R192, R193: the handle that a select value names: none when its low byte is 64 or more or a higher bit is set. -/
def handleOfSelect (value : Word) : Option Handle :=
  if h : value.toNat < 64 then some ⟨value.toNat, h⟩ else none

/-- R139, R141: the address is a multiple of 64. -/
def isAligned (address : Word) : Bool := address.toNat % 64 == 0

/-! ### Algorithms (R122) -/

/-- R122: the block size B. -/
def Algorithm.blockSize : Algorithm → Nat
  | .d256 => 64
  | .d512 => 128

/-- R122: the length field F. -/
def Algorithm.lengthField : Algorithm → Nat
  | .d256 => 8
  | .d512 => 16

/-- R122: the bytes of the digest, and of the chaining state. -/
def Algorithm.digestSize : Algorithm → Nat
  | .d256 => 32
  | .d512 => 64

/-- R196, R198, R200: the code of an algorithm. -/
def Algorithm.code : Algorithm → Nat
  | .d256 => 1
  | .d512 => 2

/-! ### Bursts -/

/-- R102: the distance from an address up to the next multiple of 64, 64 from a multiple of 64. -/
def toBoundary (address : Word) : Nat := 64 - address.toNat % 64

/-- R102: the length of the next burst of a FRAGMENT item. -/
def ActiveItem.burstLength (item : ActiveItem) : Nat := min item.toFetch (toBoundary item.nextAddress)

/-- R146, R150: the host address of burst `k` (1 to 4) of a record. -/
def recordBurstAddress (record : Word) (k : Nat) : Word := record + BitVec.ofNat 32 (64 * (k - 1))

/-- R146: the record buffer bytes that burst `k` (1 to 4) carries. -/
def recordBurstBytes (record : Vector Byte 256) (k : Nat) : List Byte :=
  (record.toList.drop (64 * (k - 1))).take 64

/-- R146: the host memory bytes that a write burst writes when it is answered OK, addresses modulo 2^32; none for a
read burst. -/
def Burst.cells (b : Burst) : List Host.Cell :=
  match b.direction with
  | .write => b.data.zipIdx.map fun p => ((b.address + BitVec.ofNat 32 p.2).toNat, p.1)
  | .read => []

/-- R111, R147: the bytes of a read burst of `n` bytes, from the lanes the host bus answers with. -/
def laneBytes (lanes : Vector Byte 64) (n : Nat) : List Byte := lanes.toList.take n

/-- R147: the record buffer with the 64 bytes of read burst `k` (1 to 4) landed in it. -/
def landBurst (record : Vector Byte 256) (k : Nat) (lanes : Vector Byte 64) : Vector Byte 256 :=
  Vector.ofFn fun j : Fin 256 =>
    if 64 * (k - 1) ≤ j.val ∧ j.val < 64 * (k - 1) + 64 then lanes.toList.getD (j.val - 64 * (k - 1)) 0
    else record[j]

/-! ### The context record (R144, R145, R198, R199) -/

/-- R199: the check word of words w0 to w62: the complement of their XOR. -/
def checkWord (w : Nat → Word) : Word :=
  ~~~ ((List.range 63).foldl (fun acc k => acc ^^^ w k) 0)

/-- R198: word `k` of the record of a context, for `k` from 0 to 62. -/
def contextWord (c : StreamContext) (k : Nat) : Word :=
  if k = 0 then Config.recordTag
  else if k = 1 then
    packWord (BitVec.ofNat 8 (c.algorithm.elim 0 Algorithm.code)) (BitVec.ofNat 8 c.holdLimit)
      (BitVec.ofNat 8 c.residue.length) (if c.declaredEnd.isSome then 1 else 0)
  else if k = 2 then
    packWord (c.gapTimeout.extractLsb' 0 8) (c.gapTimeout.extractLsb' 8 8) c.generation 0
  else if k = 3 then lowerWord c.absorbed
  else if k = 4 then upperWord c.absorbed
  else if k = 5 then lowerWord (c.declaredEnd.getD 0)
  else if k = 6 then upperWord (c.declaredEnd.getD 0)
  else if 8 ≤ k ∧ k < 24 then
    let byte (j : Nat) := c.chaining.toList.getD (4 * (k - 8) + j) 0
    packWord (byte 0) (byte 1) (byte 2) (byte 3)
  else if 24 ≤ k ∧ k < 56 then
    let byte (j : Nat) := c.residue.getD (4 * (k - 24) + j) 0
    packWord (byte 0) (byte 1) (byte 2) (byte 3)
  else 0

/-- R144, R145: the 256 bytes of the record of a context. -/
def contextRecord (c : StreamContext) : Vector Byte 256 :=
  Vector.ofFn fun j : Fin 256 =>
    byteOf (if j.val < 252 then contextWord c (j.val / 4) else checkWord (contextWord c)) (j.val % 4)

/-- R195: word `k` of a record buffer. -/
def recordWord (r : Vector Byte 256) (k : Nat) : Word :=
  let byte (j : Nat) := r.toList.getD (4 * k + j) 0
  packWord (byte 0) (byte 1) (byte 2) (byte 3)

/-- R198: byte `i` of a record buffer. -/
def recordByte (r : Vector Byte 256) (i : Nat) : Byte := r.toList.getD i 0

/-- R198: the algorithm a record gives. -/
def recordAlgorithm (r : Vector Byte 256) : Option Algorithm :=
  if recordByte r 4 = 1 then some .d256 else if recordByte r 4 = 2 then some .d512 else none

/-- R198: the hold limit a record gives. -/
def recordHoldLimit (r : Vector Byte 256) : Nat := (recordByte r 5).toNat

/-- R198: the residue length a record gives. -/
def recordResidueLength (r : Vector Byte 256) : Nat := (recordByte r 6).toNat

/-- R198: the END_PRESENT flag of a record. -/
def recordEndPresent (r : Vector Byte 256) : Bool := (recordByte r 7).getLsbD 0

/-- R198: the gap timeout a record gives. -/
def recordGapTimeout (r : Vector Byte 256) : BitVec 16 := recordByte r 9 ++ recordByte r 8

/-- R198: the absorbed count a record gives, as a 64-bit number. -/
def recordAbsorbed (r : Vector Byte 256) : Nat := wide (recordWord r 3) (recordWord r 4)

/-- R198: the declared end a record gives, as a 64-bit number. -/
def recordDeclaredEnd (r : Vector Byte 256) : Nat := wide (recordWord r 5) (recordWord r 6)

/-- R198: the residue bytes of a record, as many as its residue length. -/
def recordResidue (r : Vector Byte 256) : List Byte :=
  (List.range (recordResidueLength r)).map fun i => recordByte r (96 + i)

/-- R198: the chaining-state storage of a record. -/
def recordChaining (r : Vector Byte 256) : Vector Byte 64 :=
  Vector.ofFn fun k : Fin 64 => recordByte r (32 + k.val)

/-- R151: the record is valid: every condition of the table holds. -/
def recordValid (r : Vector Byte 256) : Bool :=
  recordWord r 0 == Config.recordTag &&
  (match recordAlgorithm r with
   | none => false
   | some alg =>
     recordResidueLength r < alg.blockSize &&
     recordAbsorbed r % alg.blockSize == recordResidueLength r &&
     (alg == .d512 || (List.range 32).all fun k => recordByte r (64 + k) == 0)) &&
  recordHoldLimit r ≤ Config.maxHoldLimit &&
  recordAbsorbed r ≤ Config.maxPosition &&
  recordByte r 7 &&& 0xFE#8 == 0 &&
  (if recordEndPresent r then recordAbsorbed r ≤ recordDeclaredEnd r && recordDeclaredEnd r ≤ Config.maxPosition
   else recordWord r 5 == 0 && recordWord r 6 == 0) &&
  recordByte r 11 == 0 &&
  recordWord r 7 == 0 &&
  ((List.range 7).all fun k => recordWord r (56 + k) == 0) &&
  ((List.range 128).all fun i => i < recordResidueLength r || recordByte r (96 + i) == 0) &&
  recordWord r 63 == checkWord (recordWord r)

/-- R152: the context that a valid record makes of a handle of generation `generation`. The stream is ENDING when the
declared end is present and equal to the absorbed count (its finalize-only item is then in flight), else OPEN. -/
def importedContext (r : Vector Byte 256) (generation : BitVec 8) : StreamContext :=
  let declaredEnd := if recordEndPresent r then some (recordDeclaredEnd r) else none
  let atEnd := declaredEnd = some (recordAbsorbed r)
  { state := if atEnd then .ending else .opened
    generation := generation
    algorithm := recordAlgorithm r
    holdLimit := recordHoldLimit r
    gapTimeout := recordGapTimeout r
    declaredEnd := declaredEnd
    frontier := recordAbsorbed r
    absorbed := recordAbsorbed r
    residue := recordResidue r
    chaining := recordChaining r
    digest := none
    faultCode := none
    holdList := []
    inFlight := if atEnd then 1 else 0
    pendingControl := none
    gapTimer := none }

end Sys2Proof.Machine
end

