-- ==== Sys2Proof/Machine/Digest.lean ====
section
/-! DEFINITION. The arithmetic of the Digest Core (spec 06): absorption, padding and finalization, over the opaque
block functions of Config. -/

namespace Sys2Proof.Machine

/-- R122, R25: the initial chaining-state storage of an algorithm: its initial value, for D256 followed by 32 zero
bytes. -/
def initialChaining : Algorithm → Vector Byte 64
  | .d256 => Vector.ofFn fun k : Fin 64 => Config.initialD256.toList.getD k.val 0
  | .d512 => Config.initialD512

/-- R122: the block function on the chaining-state storage. That of D256 neither reads nor writes bytes 32 to 63. -/
def compress (alg : Algorithm) (chaining : Vector Byte 64) (block : List Byte) : Vector Byte 64 :=
  match alg with
  | .d256 =>
    let next := Config.blockD256 (Vector.ofFn fun k : Fin 32 => chaining.toList.getD k.val 0)
      (Vector.ofFn fun k : Fin 64 => block.getD k.val 0)
    Vector.ofFn fun k : Fin 64 => if h : k.val < 32 then next[k.val] else chaining[k]
  | .d512 => Config.blockD512 chaining (Vector.ofFn fun k : Fin 128 => block.getD k.val 0)

/-- R126: the residue and the chaining state, as absorption changes them. -/
structure Absorption where
  residue : List Byte
  chaining : Vector Byte 64
deriving DecidableEq, Repr

/-- R126: append one byte to the residue; when the residue reaches the block size, compress it and empty it. -/
def absorbByte (alg : Algorithm) (x : Absorption) (b : Byte) : Absorption :=
  let residue := x.residue ++ [b]
  if residue.length = alg.blockSize then { residue := [], chaining := compress alg x.chaining residue }
  else { x with residue := residue }

/-- R126: append bytes in offset order. -/
def absorbBytes (alg : Algorithm) (x : Absorption) (bytes : List Byte) : Absorption :=
  bytes.foldl (absorbByte alg) x

/-- R130: the number of zero bytes of the padding, (B - F - r - 1) mod B. -/
def zeroBytes (alg : Algorithm) (r : Nat) : Nat :=
  (2 * alg.blockSize - alg.lengthField - r - 1) % alg.blockSize

/-- R130, R131: the length field: 8 * L, the message length in bits, in F bytes, most significant byte first. -/
def lengthBytes (alg : Algorithm) (length : Nat) : List Byte :=
  (List.range alg.lengthField).map fun i =>
    BitVec.ofNat 8 (8 * length / 2 ^ (8 * (alg.lengthField - 1 - i)))

/-- R130: the padding of a message of `length` bytes. -/
def padding (alg : Algorithm) (length : Nat) : List Byte :=
  [0x80] ++ List.replicate (zeroBytes alg (length % alg.blockSize)) 0 ++ lengthBytes alg length

/-- R132: the chaining state after the padded final block or blocks of a message of `length` bytes. -/
def finalChaining (alg : Algorithm) (x : Absorption) (length : Nat) : Vector Byte 64 :=
  (absorbBytes alg x (padding alg length)).chaining

/-- R132, R136: the digest in a final chaining state. -/
def digestOf (alg : Algorithm) (chaining : Vector Byte 64) : List Byte := chaining.toList.take alg.digestSize

end Sys2Proof.Machine
end

