-- ==== Sys2Proof/Machine/Flags.lean ====
section
/-! DEFINITION. The flags and codes of the SD64: the interrupt causes and line (R174, R175), the codes of states,
faults, statuses and protocol errors, and the words that show them (R197, R200, R201). -/

namespace Sys2Proof.Machine

/-! ### Codes -/

/-- R201: the code of the engine state in STATUS. -/
def EngineState.code : EngineState → BitVec 2
  | .init => 0
  | .run => 1
  | .clearing => 2

/-- R197: the code of a stream state. -/
def StreamState.code : StreamState → BitVec 3
  | .free => 0
  | .opened => 1
  | .ending => 2
  | .final => 3
  | .faulted => 4
  | .aborting => 5
  | .exporting => 6
  | .importing => 7

/-- R197: the code of a fault code, 0 when it is absent. -/
def faultBits : Option FaultCode → BitVec 2
  | none => 0
  | some .gapTimeout => 1
  | some .busError => 2
  | some .retryLimit => 3

/-- R160: the code of a completion status. -/
def Status.code : Status → Byte
  | .ok => 0x00
  | .okFinal => 0x01
  | .badRequest => 0x10
  | .badAlign => 0x11
  | .noHandle => 0x12
  | .noStream => 0x13
  | .stale => 0x14
  | .wrongState => 0x15
  | .notQuiescent => 0x16
  | .overlap => 0x20
  | .beyondEnd => 0x21
  | .endConflict => 0x22
  | .holdFull => 0x23
  | .abandoned => 0x30
  | .gapTimeout => 0x31
  | .busError => 0x40
  | .retryLimit => 0x41
  | .badContext => 0x42

/-- R182: the code of a protocol error cause. -/
def ProtocolError.code : ProtocolError → BitVec 3
  | .badWidth => 1
  | .badAddress => 2
  | .readOnly => 3
  | .slotNotClaimed => 4
  | .badSlot => 5
  | .cqEmptyPop => 6

/-- R160, R61: the completion status of a bus failure. -/
def BusFailure.status : BusFailure → Status
  | .busError => .busError
  | .retryLimit => .retryLimit

/-- R17, R61: the fault code of a bus failure. -/
def BusFailure.faultCode : BusFailure → FaultCode
  | .busError => .busError
  | .retryLimit => .retryLimit

/-! ### The interrupt (R174, R175) -/

/-- R201: the causes of INT_STATUS: bit 0 CQ, bit 1 PROTO, bit 2 READY. -/
def State.intStatus (s : State) : BitVec 3 :=
  BitVec.ofBool s.hbi.readyCause ++ BitVec.ofBool s.hbi.protoCause ++ BitVec.ofBool s.cu.cqCause

/-- R175: the interrupt line is asserted while a cause is set with its enable set (log entry 19: computed, so that it
follows every change in the happening that makes it). -/
def State.interruptLine (s : State) : Bool := s.intStatus &&& s.hbi.intEnable != 0

/-! ### Words of the window -/

/-- R197: the four words of a completion record. -/
def Record.word (r : Record) (k : Fin 4) : Word :=
  match k with
  | 0 => r.tag
  | 1 =>
    packWord r.status.code r.kind (BitVec.ofNat 8 r.slot.val)
      (r.stream.elim 0xFF fun ref => ref.state.code.setWidth 8)
  | 2 =>
    match r.stream with
    | none => 0xFF
    | some ref => BitVec.ofNat 16 (ref.absorbed / 2 ^ 32) ++ ref.generation ++ BitVec.ofNat 8 ref.handle.val
  | 3 =>
    match r.stream with
    | none => 0
    | some ref => BitVec.ofNat 32 ref.absorbed

/-- R165, R197: what CQ_HEAD0 to CQ_HEAD3 read for an empty queue. -/
def emptyHeadWord (k : Fin 4) : Word := if k = 1 then 0x000000FF else 0

/-- R165: what CQ_HEAD`k` reads: the head record in RUN, the empty values in INIT and CLEARING. -/
def State.headWord (s : State) (k : Fin 4) : Word :=
  match s.ec.engine, s.cu.queue with
  | .run, r :: _ => r.word k
  | _, _ => emptyHeadWord k

/-- R158, R190: the records outstanding. -/
def State.outstanding (s : State) : Nat := s.cu.queue.length + s.cu.backlog.length

/-- R190, R201: STATUS. -/
def State.statusWord (s : State) : Word :=
  0#4 ++ BitVec.ofNat 7 s.outstanding ++ BitVec.ofNat 6 s.ou.heldCount ++ BitVec.ofNat 6 s.rss.postQueue.length ++
    BitVec.ofNat 6 s.rss.freeQueue.length ++ BitVec.ofBool s.ec.dispatchEnable ++ s.ec.engine.code

/-- R183, R201: PROTO_ERR: the cause code in bits 2:0 and the overrun flag in bit 8. -/
def State.protoErrWord (s : State) : Word :=
  0#23 ++ BitVec.ofBool s.hbi.overrun ++ 0#5 ++ s.hbi.capture.elim 0 fun c => c.cause.code

/-- R183: PROTO_ADDR. -/
def State.protoAddrWord (s : State) : Word := s.hbi.capture.elim 0 fun c => c.offset.setWidth 32

/-- R168, R201: CQ_CONFIG: T in bits 7:0 and W in bits 31:16. -/
def State.cqConfigWord (s : State) : Word := s.cu.holdTime ++ 0#8 ++ BitVec.ofNat 8 s.cu.threshold

/-- R200: the distance from the frontier to the declared end, in 26 bits; 0 when the declared end is absent, all ones
when the distance is 0x3FFFFFF or more. -/
def bytesToEnd (c : StreamContext) : BitVec 26 :=
  match c.declaredEnd with
  | none => 0
  | some e => BitVec.ofNat 26 (min (e - c.frontier) 0x3FFFFFF)

/-- R192, R200: the four words of a STREAM_SELECT capture of a context. -/
def streamInfoWords (c : StreamContext) : Vector Word 4 :=
  #v[BitVec.ofBool c.declaredEnd.isSome ++ BitVec.ofNat 2 (c.algorithm.elim 0 Algorithm.code) ++ c.state.code ++
       BitVec.ofNat 26 (c.frontier - c.absorbed),
     BitVec.ofNat 32 c.absorbed,
     0#1 ++ faultBits c.faultCode ++ BitVec.ofNat 5 c.holdList.length ++ c.generation ++
       BitVec.ofNat 16 (c.absorbed / 2 ^ 32),
     bytesToEnd c ++ BitVec.ofNat 6 c.inFlight]

/-- R193: the digest that a DIGEST_SELECT capture of a context takes: that of a FINAL stream, else none. -/
def capturedDigest (c : StreamContext) : List Byte :=
  if c.state = .final then c.digest.getD [] else []

/-- R193, R200: the sixteen DIGEST words of a capture. Bytes beyond the digest are 0. -/
def digestWords (digest : List Byte) : Vector Word 16 :=
  Vector.ofFn fun n : Fin 16 =>
    let byte (j : Nat) := digest.getD (4 * n.val + j) 0
    packWord (byte 0) (byte 1) (byte 2) (byte 3)

end Sys2Proof.Machine
end

