-- ==== Sys2Proof/Machine/Ops.lean ====
section
/-! DEFINITION. The shared operations of the SD64: reaching slots and streams, the protocol error capture, completing
a request, the Bus Master Arbiter, the staging buffers, and the teardown of a stream. The meanings of the commands are
made of these. -/

namespace Sys2Proof.Machine

/-! ### Reaching slots and streams -/

/-- R80: the RSS records the new state of slot `n`. -/
def State.setSlot (s : State) (n : SlotId) (st : SlotState) : State :=
  { s with rss.states := s.rss.states.set n st }

/-- R80: the RSS records the new state of each of the slots, in order. -/
def State.setSlots (s : State) (ns : List SlotId) (st : SlotState) : State :=
  ns.foldl (fun s n => s.setSlot n st) s

/-- R1: the context of handle `h`. -/
def State.stream (s : State) (h : Handle) : StreamContext := s.ou.streams[h]

/-- R1: a change of the context of handle `h`. -/
def State.setStream (s : State) (h : Handle) (c : StreamContext) : State :=
  { s with ou.streams := s.ou.streams.set h c }

/-- R1: a change of the context of handle `h`, from the context it holds. -/
def State.updateStream (s : State) (h : Handle) (f : StreamContext → StreamContext) : State :=
  s.setStream h (f (s.stream h))

/-- R184: the engine is in RUN. -/
abbrev State.running (s : State) : Prop := s.ec.engine = .run

/-- R185: the window takes accesses only while the RESET pin is not asserted (log entry 16). -/
abbrev State.windowOpen (s : State) : Prop := s.ec.resetPin = false

/-! ### Protocol errors (R182) and interrupt causes (R174) -/

/-- R182: the HBI takes a protocol error: an empty capture takes its cause and offset, a full one sets the overrun
flag; PROTO is raised in either case. -/
def protocolError (cause : ProtocolError) (offset : BitVec 12) (s : State) : State :=
  match s.hbi.capture with
  | none => { s with hbi.capture := some { cause := cause, offset := offset }, hbi.protoCause := true }
  | some _ => { s with hbi.overrun := true, hbi.protoCause := true }

/-- R170, R171, R172: the CQ cause is raised, and the coalescing timer stops. -/
def raiseCq (s : State) : State := { s with cu.cqCause := true, cu.timer := none }

/-- R169: the coalescing timer starts with W ticks left, or stays stopped when W is 0. -/
def startCoalescing (s : State) : State :=
  { s with cu.timer := if s.cu.holdTime = 0 then none else some s.cu.holdTime.toNat }

/-- R170: the examination of a record just written: with the CQ cause clear, the cause is raised when the unread count
has reached T, and otherwise a stopped timer starts. -/
def examineCoalescing (s : State) : State :=
  if s.cu.cqCause then s
  else if s.cu.threshold ≤ s.cu.queue.length then raiseCq s
  else if s.cu.timer.isNone then startCoalescing s
  else s

/-- R172: the CQ cause is cleared when it is set, and the unread count compared with T. -/
def clearCq (s : State) : State :=
  if s.cu.cqCause then
    if s.cu.threshold ≤ s.cu.queue.length then raiseCq s
    else
      let cleared := { s with cu.cqCause := false, cu.timer := none }
      if s.cu.queue = [] then cleared else startCoalescing cleared
  else s

/-- R174: a write of INT_STATUS: each cause whose bit is 1 is cleared, CQ by R172. -/
def writeIntStatus (value : Word) (s : State) : State :=
  let s := if value.getLsbD 0 then clearCq s else s
  let s := if value.getLsbD 1 then { s with hbi.protoCause := false } else s
  if value.getLsbD 2 then { s with hbi.readyCause := false } else s

/-! ### Completing a request (R93, R94, R159, R162) -/

/-- R162, R170: a record is written at the tail of the Completion Queue and examined for coalescing. -/
def writeRecord (r : Record) (s : State) : State :=
  examineCoalescing { s with cu.queue := s.cu.queue ++ [r] }

/-- R81: slot `n` becomes FREE at the tail of the Free Queue. -/
def returnToFreeQueue (n : SlotId) (s : State) : State :=
  { s.setSlot n .free with rss.freeQueue := s.rss.freeQueue ++ [n] }

/-- R159: the completion record of the request in slot `n`. -/
def recordOf (s : State) (n : SlotId) (status : Status) (named : Option StreamRef) : Record :=
  { tag := s.tag n, status := status, kind := s.kindByte n, slot := n, stream := named }

/-- R94, R162: the Completion Unit takes slot `n`, whose request has ended: its record goes to the tail of the
Completion Queue and the slot to the Free Queue, or, when the queue is full or the Backlog is not empty, both go to
the tail of the Backlog. -/
def complete (n : SlotId) (status : Status) (named : Option StreamRef) (s : State) : State :=
  let r := recordOf s n status named
  if s.cu.queue.length < Config.queueCapacity ∧ s.cu.backlog = [] then
    returnToFreeQueue n (writeRecord r s)
  else
    { s.setSlot n .backlog with cu.backlog := s.cu.backlog ++ [{ slot := n, record := r }] }

/-- R163: a request that ended within a happening, with its status. -/
abbrev Ending := SlotId × Status

/-- R163: the Completion Unit takes several endings of one happening in the order given. All of them name the same
stream. -/
def completeAll (endings : List Ending) (named : StreamRef) (s : State) : State :=
  endings.foldl (fun s e => complete e.1 e.2 (some named) s) s

/-- R159: what a record says of the stream of handle `h` as it stands. -/
def State.refOf (s : State) (h : Handle) : StreamRef :=
  { state := (s.stream h).state, handle := h, generation := (s.stream h).generation, absorbed := (s.stream h).absorbed }

/-- R63: what a record says of a stream that the happening returns to stream FREE: that state, with the absorbed
count the stream had before. -/
def State.freedRef (s : State) (h : Handle) : StreamRef := { s.refOf h with state := .free }

/-- R23: the stream of handle `h` returns to stream FREE with its generation kept. -/
def freeStream (h : Handle) (s : State) : State :=
  s.updateStream h fun c => freeContext c.generation

/-! ### Allocation (R12, R13) and the naming check (R14) -/

/-- R12: the lowest-numbered handle whose context is stream FREE. -/
def State.lowestFree (s : State) : Option Handle :=
  (List.finRange 64).find? fun h => (s.stream h).state = .free

/-- R14: why a request that names handle `h` with `generation` names no stream it can be matched to. -/
def State.nameRefusal (s : State) (h : Handle) (generation : BitVec 8) : Option Status :=
  if (s.stream h).state = .free then some .noStream
  else if (s.stream h).generation = generation then none
  else some .stale

/-! ### The staging buffers (R104) -/

/-- The other buffer: the Fetch Engine fills the two alternately (R105). -/
def BufferId.other : BufferId → BufferId
  | .a => .b
  | .b => .a

/-- A staging buffer. -/
def AbsorbPath.buffer (ap : AbsorbPath) : BufferId → Buffer
  | .a => ap.bufferA
  | .b => ap.bufferB

/-- A change of a staging buffer. -/
def AbsorbPath.setBuffer (ap : AbsorbPath) (i : BufferId) (b : Buffer) : AbsorbPath :=
  match i with
  | .a => { ap with bufferA := b }
  | .b => { ap with bufferB := b }

/-- R104: a buffer in the state given becomes EMPTY, its bytes discarded. -/
def Buffer.discardIf (st : BufferState) (b : Buffer) : Buffer := if b.state = st then Buffer.cleared else b

/-- R104: every buffer in the state given becomes EMPTY. -/
def AbsorbPath.discard (ap : AbsorbPath) (st : BufferState) : AbsorbPath :=
  { ap with bufferA := ap.bufferA.discardIf st, bufferB := ap.bufferB.discardIf st }

/-- R104, R111: a FILLING buffer becomes FULL with the burst's bytes. -/
def Buffer.fillWith (bytes : List Byte) (b : Buffer) : Buffer :=
  if b.state = .filling then { state := .full, data := bytes } else b

/-- R114, R117: no buffer is DRAINING. -/
abbrev AbsorbPath.noneDraining (ap : AbsorbPath) : Prop :=
  ap.bufferA.state ≠ .draining ∧ ap.bufferB.state ≠ .draining

/-! ### The Bus Master Arbiter (R108, R109) -/

/-- R103, R105, R109: the Fetch Engine's request is granted: the chosen buffer becomes FILLING and the next burst of
the active item goes onto the bus, its retry count 0. -/
def grantFetch (item : ActiveItem) (s : State) : State :=
  { s with
    ap := { (s.ap.setBuffer s.ap.nextFill { state := .filling, data := [] }) with
      nextFill := s.ap.nextFill.other
      active := some { item with retryCount := 0 } }
    bma := { s.bma with
      burst := some { requester := .fetch, direction := .read, address := item.nextAddress,
                      length := item.burstLength, data := [] }
      fetchWaiting := false
      lastGranted := .fetch } }

/-- R146, R150, R109: the burst that the CTU's active transfer places on the bus. -/
def transferBurst (s : State) (t : ActiveTransfer) : Burst :=
  { requester := .ctu
    direction := match t.transfer.kind with | .exporting => .write | .importing => .read
    address := recordBurstAddress (s.hostAddress t.transfer.slot) t.burst
    length := 64
    data := match t.transfer.kind with | .exporting => recordBurstBytes s.ctu.record t.burst | .importing => [] }

/-- R109, R146: the CTU's request is granted. -/
def grantCtu (t : ActiveTransfer) (s : State) : State :=
  { s with
    ctu.active := some { t with retryCount := 0 }
    bma := { s.bma with burst := some (transferBurst s t), ctuWaiting := false, lastGranted := .ctu } }

/-- R109: which waiting request an idle bus master is granted to: the only one, or, of two, that of the requester not
granted last. -/
def BusArbiter.winner (b : BusArbiter) : Option Requester :=
  match b.fetchWaiting, b.ctuWaiting with
  | false, false => none
  | true, false => some .fetch
  | false, true => some .ctu
  | true, true => if b.lastGranted = .fetch then some .ctu else some .fetch

/-- R109, R119: with the bus master idle and the engine in RUN, a waiting request is granted. -/
def arbitrate (s : State) : State :=
  if s.running ∧ s.bma.burst = none then
    match s.bma.winner, s.ap.active, s.ctu.active with
    | some .fetch, some item, _ => grantFetch item s
    | some .ctu, _, some t => grantCtu t s
    | _, _, _ => s
  else s

/-- R108: the burst on the bus ends; the bus master is idle, and a waiting request is granted (R109). -/
def endBurst (s : State) : State := arbitrate { s with bma.burst := none }

/-- R103: the conditions under which the Fetch Engine requests the bus master for the item. -/
abbrev wantsBurst (s : State) (item : ActiveItem) : Prop :=
  0 < item.toFetch ∧ item.cut = false ∧ item.failure = none ∧
  s.bma.burst.all (·.requester != .fetch) ∧ s.bma.fetchWaiting = false ∧
  (s.ap.bufferA.state = .empty ∨ s.ap.bufferB.state = .empty) ∧ s.running

/-- R103, R109: the Fetch Engine requests the bus master when every condition holds. -/
def requestFetch (s : State) : State :=
  match s.ap.active with
  | none => s
  | some item => if wantsBurst s item then arbitrate { s with bma.fetchWaiting := true } else s

/-- R146: the CTU requests the bus master for its active transfer's next burst. -/
def requestCtu (s : State) : State := arbitrate { s with bma.ctuWaiting := true }

/-- R106, R126: an idle Digest Core begins draining the earliest-filled buffer when it is FULL. -/
def beginDrain (s : State) : State :=
  if s.dc.mode = .idle ∧ s.ap.active.isSome ∧ (s.ap.buffer s.ap.nextDrain).state = .full then
    { s with
      ap := s.ap.setBuffer s.ap.nextDrain { (s.ap.buffer s.ap.nextDrain) with state := .draining }
      dc.mode := .draining }
  else s

/-- R111, R106: R103 and R106 are examined after a happening at the AP (log entry 11). -/
def examineAbsorbPath (s : State) : State := requestFetch (beginDrain s)

/-! ### The end of an item (R107, R124) -/

/-- R107, R114, R117, R132: the active item becomes absent, the Digest Core is IDLE with an empty working copy, and
the item's stream has one item less in flight (R54). -/
def dropActive (h : Handle) (s : State) : State :=
  { s.updateStream h (fun c => { c with inFlight := c.inFlight - 1 }) with
    ap.active := none, dc := DigestCore.atRest }

/-! ### Teardown (R62), the cut (R64, R116) and the serving of pending control (R67) -/

/-- R10: some item of stream `h` is active. -/
def State.hasActive (s : State) (h : Handle) : Bool := s.ap.active.any (·.stream == h)

/-- R62 steps 1 to 3: the stream's Ready Queue items and held fragments are removed and its gap timer stopped. -/
def removeWork (h : Handle) (s : State) : State :=
  let c := s.stream h
  let dropped := s.ap.readyQueue.filter (·.stream == h)
  { s.setStream h { c with holdList := [], gapTimer := none, inFlight := c.inFlight - dropped.length } with
    ap.readyQueue := s.ap.readyQueue.filter (·.stream != h)
    ou.heldCount := s.ou.heldCount - c.holdList.length }

/-- R62 steps 1 and 2: the endings that `removeWork` gives, in order: the items dropped, ABANDONED, in queue order,
then the held fragments, with the status given, in ascending offset. -/
def removedWork (h : Handle) (heldStatus : Status) (s : State) : List Ending :=
  (s.ap.readyQueue.filter (·.stream == h)).map (fun i => (i.slot, Status.abandoned)) ++
    (s.stream h).holdList.map fun n => (n, heldStatus)

/-- R62 step 4, R64, R116: the stream's active item, when there is one and it is not in its finalization (R65), is cut:
it receives the cut mark, the Fetch Engine's waiting request is withdrawn (R110), and a FULL buffer is emptied. -/
def cutActive (h : Handle) (s : State) : State :=
  match s.ap.active with
  | some item =>
    if item.stream = h ∧ s.dc.mode ≠ .finalizing then
      { s with
        ap := { s.ap.discard .full with active := some { item with cut := true } }
        bma.fetchWaiting := false }
    else s
  | none => s

/-- R60, R62: the gap timer of stream `h` expires. -/
def expireGap (h : Handle) (s : State) : State :=
  let endings := removedWork h .gapTimeout s
  let s := (cutActive h (removeWork h s)).updateStream h fun c =>
    { c with state := .faulted, faultCode := some .gapTimeout }
  completeAll endings (s.refOf h) s

/-- R61, R62: the active item `item` reports the failure of its fetch and its stream is faulted. -/
def faultStream (item : ActiveItem) (failure : BusFailure) (s : State) : State :=
  let h := item.stream
  let endings := removedWork h .abandoned s ++ [(item.slot, failure.status)]
  let s := (removeWork h (dropActive h s)).updateStream h fun c =>
    { c with state := .faulted, faultCode := some failure.faultCode }
  completeAll endings (s.refOf h) s

/-- R64, R65, R67: an item ends ABANDONED, as the end of a cut or as a finalization in ABORTING. Its stream is served:
with pending control it returns to stream FREE and the waiting slot completes OK after the item. -/
def abandonActive (item : ActiveItem) (s : State) : State :=
  let h := item.stream
  let s := dropActive h s
  match (s.stream h).pendingControl with
  | some p => completeAll [(item.slot, .abandoned), (p, .ok)] (s.freedRef h) (freeStream h s)
  | none => completeAll [(item.slot, .abandoned)] (s.refOf h) s

/-! ### CONTROL (R186) -/

/-- R28, R110, R187: the engine clear begins: the engine is in CLEARING, every gap timer is stopped, and the Fetch
Engine withdraws its request. -/
def beginClear (s : State) : State :=
  { s with
    ec.engine := .clearing
    ec.swept := Swept.none
    ou.streams := s.ou.streams.map fun c => { c with gapTimer := none }
    bma.fetchWaiting := false }

/-- R186: a write of CONTROL: dispatch-enable takes bit 0; with bit 1 at 1 in RUN the engine clear begins. -/
def writeControl (value : Word) (s : State) : State :=
  let s := { s with ec.dispatchEnable := value.getLsbD 0 }
  if value.getLsbD 1 ∧ s.running then beginClear s else s

end Sys2Proof.Machine
end

