-- ==== Sys2Proof/Machine/Transfer.lean ====
section
/-! DEFINITION. The Context Transfer Unit (spec 07.3 to 07.7): the start of a transfer, the progress of its bursts, and
its end. -/

namespace Sys2Proof.Machine

/-- TRANSFER_START, R143, R144, R146: in RUN, with no active transfer, the head of the transfer queue becomes the
active transfer; an EXPORT's record is built; the CTU requests the bus master for the first burst. -/
def execTransferStart (s : State) : Result :=
  match s.ec.engine, s.ctu.active, s.ctu.queue with
  | .run, none, t :: rest =>
    let record := match t.kind with
      | .exporting => contextRecord (s.stream t.stream)
      | .importing => s.ctu.record
    .next (requestCtu { s.setSlot t.slot .active with
      ctu := { queue := rest, active := some { transfer := t, burst := 1, retryCount := 0 }, record := record } })
  | _, _, _ => .next s

/-- R148: an EXPORT ends with every burst accepted: the stream returns to stream FREE and the request completes OK. -/
def finishExport (t : Transfer) (s : State) : State :=
  complete t.slot .ok (some (s.freedRef t.stream)) (freeStream t.stream { s with ctu.active := none })

/-- R150, R151: an IMPORT ends with the status given, its record unread or refused: the handle returns to stream FREE
with its advanced generation, and the record carries an absorbed count of 0. -/
def failImport (t : Transfer) (status : Status) (s : State) : State :=
  let s := freeStream t.stream { s with ctu.active := none }
  complete t.slot status (some (s.refOf t.stream)) s

/-- R151, R152, R22: an IMPORT's fourth burst has ended OK: the record is validated and written into the context. A
stream at its declared end becomes ENDING with the slot as its finalize-only item; any other completes OK. -/
def finishImport (t : Transfer) (s : State) : State :=
  if recordValid s.ctu.record then
    let c := importedContext s.ctu.record (s.stream t.stream).generation
    let s := { s.setStream t.stream c with ctu.active := none }
    if c.state = .ending then
      { s.setSlot t.slot .ready with
        ap.readyQueue := s.ap.readyQueue ++ [{ slot := t.slot, stream := t.stream, kind := .finalizeOnly }] }
    else complete t.slot .ok (some (s.refOf t.stream)) s
  else failImport t .badContext s

/-- R147, R149, R150: a burst of the transfer ends with a bus error or the retry limit, and the transfer with it: an
EXPORT's stream returns to OPEN as it was, an IMPORT's handle to stream FREE. -/
def failTransfer (t : Transfer) (failure : BusFailure) (s : State) : State :=
  match t.kind with
  | .exporting =>
    let s := { s.updateStream t.stream (fun c => { c with state := .opened }) with ctu.active := none }
    complete t.slot failure.status (some (s.refOf t.stream)) s
  | .importing => failImport t failure.status s

/-- R147: a burst of the active transfer is answered OK: a read's bytes land in the record buffer; the burst ends, and
the next is requested, or, after the fourth, the transfer ends. -/
def advanceTransfer (a : ActiveTransfer) (lanes : Vector Byte 64) (s : State) : State :=
  let s := match a.transfer.kind with
    | .exporting => s
    | .importing => { s with ctu.record := landBurst s.ctu.record a.burst lanes }
  if a.burst < 4 then
    requestCtu (endBurst { s with ctu.active := some { a with burst := a.burst + 1, retryCount := 0 } })
  else
    match a.transfer.kind with
    | .exporting => finishExport a.transfer (endBurst s)
    | .importing => finishImport a.transfer (endBurst s)

end Sys2Proof.Machine
end

