-- ==== Sys2Proof/Machine/Absorb.lean ====
section
/-! DEFINITION. The Absorb Path, the Digest Core and the answers of the host bus (spec 05, 06): the take of an item, the
three answers to a burst, the ends of drains and finalizations, the fault report and the end of a cut. -/

namespace Sys2Proof.Machine

/-! ### The take of an item (R52, R101) -/

/-- R101, R100: the active item that a Ready Queue item becomes. No rule gives the next address of a finalize-only item,
which has no byte to fetch: 0 is the model's value (DESIGN CHOICE, log entry 26). -/
def activeItemOf (s : State) (item : ReadyItem) : ActiveItem :=
  { slot := item.slot
    stream := item.stream
    kind := item.kind
    nextAddress := match item.kind with | .fragment => s.hostAddress item.slot | .finalizeOnly => 0
    toFetch := match item.kind with | .fragment => s.fragmentLength item.slot | .finalizeOnly => 0
    toDrain := 0
    retryCount := 0
    cut := false
    failure := none }

/-- R101, R125, R129: the item becomes active, its slot ACTIVE; the Digest Core loads its working copy, and for a
finalize-only item begins the finalization; the Fetch Engine requests a FRAGMENT's first burst. Both buffer pointers are
A (log entry 21). -/
def takeItem (item : ReadyItem) (rest : List ReadyItem) (s : State) : State :=
  let c := s.stream item.stream
  requestFetch { s.setSlot item.slot .active with
    ap := { s.ap with
      readyQueue := rest
      active := some (activeItemOf s item)
      nextFill := .a
      nextDrain := .a }
    dc := { mode := match item.kind with | .fragment => .idle | .finalizeOnly => .finalizing
            algorithm := c.algorithm
            residue := c.residue
            chaining := c.chaining } }

/-- ITEM_TAKE, R52, R101: with no active item, in RUN, the AP takes the head of the Ready Queue. -/
def execItemTake (s : State) : Result :=
  match s.ec.engine, s.ap.active, s.ap.readyQueue with
  | .run, none, item :: rest => .next (takeItem item rest s)
  | _, _, _ => .next s

/-! ### The answers of the host bus (R111 to R113, R147) -/

/-- R112, R119: the burst is one that its requester no longer wants: any burst in CLEARING, and a Fetch Engine burst
whose item is cut. -/
def unwanted (s : State) (b : Burst) : Bool :=
  s.ec.engine == .clearing || (b.requester == .fetch && s.ap.active.any (·.cut))

/-- R116, R119: an unwanted burst ends at its next answer, its data discarded: a FILLING buffer becomes EMPTY. -/
def endUnwanted (b : Burst) (s : State) : State :=
  match b.requester with
  | .fetch => endBurst { s with ap := s.ap.discard .filling }
  | .ctu => endBurst s

/-- R111: a Fetch Engine burst of the active item is answered OK: its FILLING buffer becomes FULL and the item moves on;
the burst ends, and the next request and drain are examined. -/
def landFetch (b : Burst) (item : ActiveItem) (lanes : Vector Byte 64) (s : State) : State :=
  let bytes := laneBytes lanes b.length
  examineAbsorbPath (endBurst { s with
    ap := { s.ap with
      bufferA := s.ap.bufferA.fillWith bytes
      bufferB := s.ap.bufferB.fillWith bytes
      active := some { item with
        nextAddress := item.nextAddress + BitVec.ofNat 32 b.length
        toFetch := item.toFetch - b.length
        toDrain := item.toDrain + b.length
        retryCount := 0 } } })

/-- R111, R147: the answer OK to the burst `b`. -/
def answerOk (b : Burst) (lanes : Vector Byte 64) (s : State) : State :=
  if unwanted s b then endUnwanted b s
  else
    match b.requester, s.ap.active, s.ctu.active with
    | .fetch, some item, _ => landFetch b item lanes s
    | .ctu, _, some a => advanceTransfer a lanes s
    | _, _, _ => endBurst s

/-- R113: a Fetch Engine burst of the active item fails: the failure is recorded in the item, its FILLING and FULL
buffers are emptied, and the burst ends. -/
def failFetch (item : ActiveItem) (failure : BusFailure) (s : State) : State :=
  endBurst { s with
    ap := { (s.ap.discard .filling).discard .full with active := some { item with failure := some failure } } }

/-- R113, R147: a burst ends in failure. -/
def answerFailure (b : Burst) (failure : BusFailure) (s : State) : State :=
  if unwanted s b then endUnwanted b s
  else
    match b.requester, s.ap.active, s.ctu.active with
    | .fetch, some item, _ => failFetch item failure s
    | .ctu, _, some a => failTransfer a.transfer failure (endBurst s)
    | _, _, _ => endBurst s

/-- The retry count of the burst on the bus, by its requester (R100, R143). -/
def State.retryCount (s : State) (b : Burst) : Nat :=
  match b.requester with
  | .fetch => s.ap.active.elim 0 (·.retryCount)
  | .ctu => s.ctu.active.elim 0 (·.retryCount)

/-- R112: the retry count of the burst rises by one. -/
def countRetry (b : Burst) (s : State) : State :=
  match b.requester with
  | .fetch =>
    { s with ap.active := s.ap.active.map fun item => { item with retryCount := item.retryCount + 1 } }
  | .ctu =>
    { s with ctu.active := s.ctu.active.map fun a => { a with retryCount := a.retryCount + 1 } }

/-- R112, R147: the answer RETRY to the burst `b`: the retry count rises; a burst no longer wanted ends; the sixteenth
RETRY ends the burst with the retry limit; otherwise the same burst stays on the bus. -/
def answerRetry (b : Burst) (s : State) : State :=
  let s := countRetry b s
  if unwanted s b then endUnwanted b s
  else if Config.retryLimit ≤ s.retryCount b then answerFailure b .retryLimit s
  else s

/-- BURST_OK, R111, R147: an OK answer to the burst on the bus. With no burst on the bus there is none. -/
def execBurstOk (lanes : Vector Byte 64) (s : State) : Result :=
  match s.bma.burst with
  | some b => .next (answerOk b lanes s)
  | none => .next s

/-- BURST_RETRY, R112, R147: a RETRY answer to the burst on the bus (log entry 13). -/
def execBurstRetry (s : State) : Result :=
  match s.bma.burst with
  | some b => .next (answerRetry b s)
  | none => .next s

/-- RETRY_LIMIT, R112, R147: a RETRY answer that is the sixteenth consecutive one of a burst still wanted (log entry
13). -/
def execRetryLimit (s : State) : Result :=
  match s.bma.burst with
  | some b =>
    if unwanted s b = false ∧ Config.retryLimit ≤ s.retryCount b + 1 then .next (answerRetry b s) else .next s
  | none => .next s

/-- BURST_ERROR, R113, R147: an ERROR answer to the burst on the bus. -/
def execBurstError (s : State) : Result :=
  match s.bma.burst with
  | some b => .next (answerFailure b .busError s)
  | none => .next s

/-! ### Drains and finalizations (R106, R107, R127, R129, R132) -/

/-- The residue and chaining state of the Digest Core's working copy. -/
def DigestCore.copy (dc : DigestCore) : Absorption := { residue := dc.residue, chaining := dc.chaining }

/-- R132, R130: the algorithm a drain or finalization of the active item uses: the one the Digest Core noted (R125). -/
def DigestCore.noted (dc : DigestCore) : Algorithm := dc.algorithm.getD .d256

/-- R107: a FRAGMENT item ends normally, with OK: the active item becomes absent and the slot completes. -/
def finishItem (item : ActiveItem) (s : State) : State :=
  let s := dropActive item.stream s
  complete item.slot .ok (some (s.refOf item.stream)) s

/-- R106, R127: a drain whose item has neither cut mark nor failure is absorbed: the absorbed count rises by the bytes
drained, and the residue and chaining state are written into the context. The buffer becomes EMPTY and the Digest Core
IDLE. -/
def absorbDrain (item : ActiveItem) (s : State) : State :=
  let bytes := (s.ap.buffer s.ap.nextDrain).data
  let x := absorbBytes s.dc.noted s.dc.copy bytes
  let s' := s.updateStream item.stream fun c =>
    { c with absorbed := c.absorbed + bytes.length, residue := x.residue, chaining := x.chaining }
  { s' with
    ap := { s.ap.setBuffer s.ap.nextDrain Buffer.cleared with
      nextDrain := s.ap.nextDrain.other
      active := some { item with toDrain := item.toDrain - bytes.length } }
    dc := { s.dc with mode := .idle, residue := x.residue, chaining := x.chaining } }

/-- R106, R127: a drain whose item is cut or has failed is discarded: nothing is written into the context, and the
Digest Core takes back the context's residue and chaining state. -/
def discardDrain (item : ActiveItem) (s : State) : State :=
  let c := s.stream item.stream
  { s with
    ap := { s.ap.setBuffer s.ap.nextDrain Buffer.cleared with
      nextDrain := s.ap.nextDrain.other
      active := some { item with toDrain := 0 } }
    dc := { s.dc with mode := .idle, residue := c.residue, chaining := c.chaining } }

/-- R107, R129: what follows a drain that was absorbed: the item's last bytes end it, or begin the finalization of a
stream in ENDING whose absorbed count has reached its declared end; otherwise R103 and R106 are examined. -/
def afterDrain (s : State) : State :=
  match s.ap.active with
  | none => s
  | some item =>
    if item.toFetch = 0 ∧ item.toDrain = 0 then
      let c := s.stream item.stream
      if c.state = .ending ∧ c.declaredEnd = some c.absorbed then { s with dc.mode := .finalizing }
      else finishItem item s
    else examineAbsorbPath s

/-- DRAIN_END, R106, R107, R127, R129: in RUN, the drain in progress ends. -/
def execDrainEnd (s : State) : Result :=
  match s.ec.engine, s.dc.mode, s.ap.active with
  | .run, .draining, some item =>
    if item.cut = false ∧ item.failure = none then .next (afterDrain (absorbDrain item s))
    else .next (discardDrain item s)
  | _, _, _ => .next s

/-- R132, R16: a finalization ends in ENDING: the digest is stored, the residue emptied, the chaining state zeroed, the
stream FINAL, and the item completes OK_FINAL. -/
def storeDigest (item : ActiveItem) (s : State) : State :=
  let h := item.stream
  let c := s.stream h
  let chaining := finalChaining s.dc.noted s.dc.copy (c.declaredEnd.getD 0)
  let s := (dropActive h s).updateStream h fun c =>
    { c with
      state := .final
      digest := some (digestOf s.dc.noted chaining)
      residue := []
      chaining := Vector.replicate 64 0 }
  complete item.slot .okFinal (some (s.refOf h)) s

/-- FINALIZATION_END, R132: in RUN, the finalization in progress ends: in ABORTING its result is discarded and the item
completes ABANDONED (R65), else the stream becomes FINAL. -/
def execFinalizationEnd (s : State) : Result :=
  match s.ec.engine, s.dc.mode, s.ap.active with
  | .run, .finalizing, some item =>
    if (s.stream item.stream).state = .aborting then .next (abandonActive item s) else .next (storeDigest item s)
  | _, _, _ => .next s

/-! ### The fault report and the end of a cut (R114, R117) -/

/-- R114: the active item is quiet: no burst of it is on the bus and no buffer is DRAINING. -/
abbrev State.quiet (s : State) : Prop := s.bma.burst.all (·.requester != .fetch) = true ∧ s.ap.noneDraining

/-- FAULT_REPORT, R114, R61: in RUN, a quiet active item with a failure recorded reports it: an item not cut faults its
stream; the report of a cut item is the end of its cut. -/
def execFaultReport (s : State) : Result :=
  match s.ec.engine, s.ap.active with
  | .run, some item =>
    match item.failure with
    | some failure =>
      if s.quiet then
        if item.cut then .next (abandonActive item s) else .next (faultStream item failure s)
      else .next s
    | none => .next s
  | _, _ => .next s

/-- CUT_END, R117, R64: in RUN, a cut item without a failure reports its end once it is quiet, with no request waiting
and both buffers EMPTY. -/
def execCutEnd (s : State) : Result :=
  match s.ec.engine, s.ap.active with
  | .run, some item =>
    if item.cut = true ∧ item.failure = none ∧ s.quiet ∧ s.bma.fetchWaiting = false ∧
        s.ap.bufferA.state = .empty ∧ s.ap.bufferB.state = .empty then
      .next (abandonActive item s)
    else .next s
  | _, _ => .next s

end Sys2Proof.Machine
end

