-- ==== Sys2Proof/Machine/Engine.lean ====
section
/-! DEFINITION. The engine (spec 09): the RESET pin, the start-up sweep, the clearing sweep block by block, and the
ticks of the timebase with the expiries of the timers (spec 03.1, 08.5). -/

namespace Sys2Proof.Machine

/-! ### Power-on reset (R184, R185, R194) -/

/-- RESET_ASSERT, R194: every piece of state takes its power-on value. The queue of commands is not the chip's and
stays. -/
def execResetAssert (s : State) : Result := .next { State.reset with pending := s.pending }

/-- RESET_RELEASE, R185: the pin is released, and the start-up sweep begins: INIT with the pin released. -/
def execResetRelease (s : State) : Result := .next { s with ec.resetPin := false }

/-- R184: the engine enters RUN and READY is raised. -/
def enterRun (s : State) : State :=
  { s with ec.engine := .run, ec.swept := Swept.none, hbi.readyCause := true }

/-- START_UP_SWEEP_END, R185: in INIT with the pin released, the engine enters RUN. -/
def execStartUpSweepEnd (s : State) : Result :=
  if s.ec.engine = .init ∧ s.ec.resetPin = false then .next (enterRun s) else .next s

/-! ### The clearing sweep (R187) -/

/-- R119, R187: the clearing sweep is under way: the engine is in CLEARING and no burst is on the bus any more. -/
abbrev State.sweeping (s : State) : Prop := s.ec.engine = .clearing ∧ s.bma.burst = none

/-- SWEEP_RSS, R98: every slot becomes FREE, the Free Queue is 0 to 47, the Post Queue is empty, and every slot word is
kept. -/
def execSweepRss (s : State) : Result :=
  if s.sweeping ∧ s.ec.swept.rss = false then
    .next { s with ec.swept.rss := true, rss := { SlotStore.reset with words := s.rss.words } }
  else .next s

/-- SWEEP_STREAM_TABLE, R28: every context takes the stream FREE values with its generation kept, and the device held
count becomes 0. -/
def execSweepStreamTable (s : State) : Result :=
  if s.sweeping ∧ s.ec.swept.streamTable = false then
    .next { s with
      ec.swept.streamTable := true
      ou := { streams := s.ou.streams.map fun c => freeContext c.generation, heldCount := 0 } }
  else .next s

/-- SWEEP_ABSORB_PATH, R119, R138: the Absorb Path, the Digest Core and the arbiter take their reset values. -/
def execSweepAbsorbPath (s : State) : Result :=
  if s.sweeping ∧ s.ec.swept.absorbPath = false then
    .next { s with
      ec.swept.absorbPath := true
      ap := AbsorbPath.reset
      dc := DigestCore.atRest
      bma := BusArbiter.reset }
  else .next s

/-- SWEEP_CTU, R156: the CTU takes its reset values, and its request at the arbiter is removed. -/
def execSweepCtu (s : State) : Result :=
  if s.sweeping ∧ s.ec.swept.ctu = false then
    .next { s with ec.swept.ctu := true, ctu := TransferUnit.reset, bma.ctuWaiting := false }
  else .next s

/-- SWEEP_CU, R176, R183: the Completion Queue and the Backlog are discarded, the coalescing timer stopped, every cause
of INT_STATUS cleared, and the protocol error capture emptied. T, W and INT_ENABLE keep their values. -/
def execSweepCu (s : State) : Result :=
  if s.sweeping ∧ s.ec.swept.cu = false then
    .next { s with
      ec.swept.cu := true
      cu := { s.cu with queue := [], backlog := [], timer := none, cqCause := false }
      hbi := { s.hbi with protoCause := false, readyCause := false, capture := none, overrun := false } }
  else .next s

/-- CLEARING_SWEEP_END, R187: once every block has been reached, the engine enters RUN. -/
def execClearingSweepEnd (s : State) : Result :=
  if s.ec.engine = .clearing ∧
      s.ec.swept = { rss := true, streamTable := true, absorbPath := true, ctu := true, cu := true } then
    .next (enterRun s)
  else .next s

/-! ### Ticks (R189, R58, R60, R169, R171) -/

/-- R189, R169: the coalescing timer counts a tick: the prescaler produces one, and the engine is in RUN. -/
abbrev State.ticking (s : State) : Prop := s.running ∧ s.ec.prescaler ≠ 0

/-- R58: the gap timers count a tick: also dispatch-enable is 1. -/
abbrev State.gapTicking (s : State) : Prop := s.ticking ∧ s.ec.dispatchEnable = true

/-- R169, R171: a tick taken at the coalescing timer: a running timer falls by one, and one with 1 tick left runs out,
raising the CQ cause. -/
def countCoalescing (s : State) : State :=
  match s.cu.timer with
  | none => s
  | some n => if n ≤ 1 then raiseCq s else { s with cu.timer := some (n - 1) }

/-- R58, R60: a tick taken at the gap timer of stream `h`: a running timer falls by one, and one with 1 tick left
expires. -/
def countGap (s : State) (h : Handle) : State :=
  match (s.stream h).gapTimer with
  | none => s
  | some n => if n ≤ 1 then expireGap h s else s.updateStream h fun c => { c with gapTimer := some (n - 1) }

/-- TICK, R189: a tick is taken at the coalescing timer and at every gap timer that counts it, in ascending order of
handle; a timer that reaches 0 expires in it (log entry 9). -/
def execTick (s : State) : Result :=
  if s.ticking then
    let s := countCoalescing s
    if s.ec.dispatchEnable then .next ((List.finRange 64).foldl countGap s) else .next s
  else .next s

/-- GAP_TIMER_EXPIRY, R60: the tick that takes the gap timer of stream `h` from 1 to 0, taken at the OU apart from the
other timers' (log entry 9). -/
def execGapTimerExpiry (h : Handle) (s : State) : Result :=
  if s.gapTicking ∧ (s.stream h).gapTimer = some 1 then .next (expireGap h s) else .next s

/-- COALESCING_TIMER_EXPIRY, R171: the tick that takes the coalescing timer from 1 to 0, taken at the CU apart from the
other timers' (log entry 9). -/
def execCoalescingTimerExpiry (s : State) : Result :=
  if s.ticking ∧ s.cu.timer = some 1 then .next (raiseCq s) else .next s

end Sys2Proof.Machine
end

