-- ==== Sys2Proof/Machine/Requests.lean ====
section
/-! DEFINITION. The Dispatcher's takes (spec 01.8, 02, 03.4, 04.6, 07.1, 07.2): OPEN, FRAGMENT, ABORT, RELEASE, EXPORT,
IMPORT and requests of no known kind. -/

namespace Sys2Proof.Machine

/-! ### The take (R89, R90) -/

/-- R89, R90: the Dispatcher takes the head of the Post Queue when the engine is in RUN and dispatch-enable is 1, and
its kind byte is of the kind the command names. The head slot leaves the Post Queue and `request` settles its
outcome. -/
def dispatchTake (kind : Byte → Bool) (request : SlotId → State → State) (s : State) : Result :=
  if s.running ∧ s.ec.dispatchEnable = true then
    match s.rss.postQueue with
    | [] => .next s
    | n :: rest => if kind (s.kindByte n) then .next (request n { s with rss.postQueue := rest }) else .next s
  else .next s

/-- R93, R160: the request ends at the take, refused, naming no stream. -/
def refuse (n : SlotId) (status : Status) (s : State) : State := complete n status none s

/-- R37, R66, R139: the request ends at the take, and its record names the stream as the take leaves it. -/
def refuseNaming (n : SlotId) (status : Status) (h : Handle) (s : State) : State :=
  complete n status (some (s.refOf h)) s

/-- R26, R38, R39, R49: slot `n` becomes READY at the tail of the Ready Queue as an item of stream `h`. -/
def joinReadyQueue (n : SlotId) (h : Handle) (kind : ItemKind) (s : State) : State :=
  { s.setSlot n .ready with ap.readyQueue := s.ap.readyQueue ++ [{ slot := n, stream := h, kind := kind }] }

/-! ### OPEN (R24 to R26) -/

/-- R24: the field checks of an OPEN: some algorithm, a hold limit of at most 16, no flag but END_PRESENT, and with
END_PRESENT a position of at most 2^48. -/
def openFieldsValid (s : State) (n : SlotId) : Bool :=
  (s.requestAlgorithm n).isSome && s.requestHoldLimit n ≤ Config.maxHoldLimit &&
    s.flagBits n &&& 0xFD#8 == 0 && (!s.endPresentFlag n || s.position n ≤ Config.maxPosition)

/-- R25, R26: the context that an OPEN sets for a handle of generation `generation`. -/
def openedContext (s : State) (n : SlotId) (alg : Algorithm) (generation : BitVec 8) : StreamContext :=
  let declaredEnd := if s.endPresentFlag n then some (s.position n) else none
  { freeContext generation with
    state := if declaredEnd = some 0 then .ending else .opened
    algorithm := some alg
    holdLimit := s.requestHoldLimit n
    gapTimeout := s.requestGapTimeout n
    declaredEnd := declaredEnd
    chaining := initialChaining alg
    inFlight := if declaredEnd = some 0 then 1 else 0 }

/-- R24 to R26: the outcome of an OPEN in slot `n`: refused, opened with OK, or of zero length and placed in the Ready
Queue as a finalize-only item. -/
def openOutcome (n : SlotId) (s : State) : State :=
  match openFieldsValid s n, s.requestAlgorithm n, s.lowestFree with
  | true, some _, none => refuse n .noHandle s
  | true, some alg, some h =>
    let c := openedContext s n alg ((s.stream h).generation + 1)
    let s := s.setStream h c
    if c.state = .ending then joinReadyQueue n h .finalizeOnly s else refuseNaming n .ok h s
  | _, _, _ => refuse n .badRequest s

/-- OPEN, R24 to R26, R89, R90. -/
def execOpenRequest (s : State) : Result := dispatchTake (· == 1) openOutcome s

/-! ### FRAGMENT (R29 to R48) -/

/-- R30: what the ordered checks of a FRAGMENT decide. -/
inductive FragmentVerdict where
  /-- Refused; the record names the stream when one was matched (R37). -/
  | refused (status : Status) (named : Option Handle)
  | inOrder (h : Handle)
  | held (h : Handle)
deriving DecidableEq, Repr

/-- R31: the field checks of a FRAGMENT: its handle when they pass. -/
def fragmentFields (s : State) (n : SlotId) : Option Handle :=
  if s.fragmentLength n = 0 ∨ Config.maxLength < s.fragmentLength n ∨ Config.maxPosition < s.fragmentEnd n ∨
      s.flagBits n &&& 0xFE#8 ≠ 0 then none
  else handleOfByte (s.handleByte n)

/-- R35: a fragment with LAST disagrees with the declared end, or would strand a held fragment. -/
def endConflicts (s : State) (n : SlotId) (c : StreamContext) : Bool :=
  s.lastFlag n &&
    match c.declaredEnd with
    | some e => s.fragmentEnd n != e
    | none => c.holdList.any fun m => s.fragmentEnd n < s.fragmentEnd m

/-- R36: the ranges of the fragments in slots `n` and `m` share an offset. -/
def rangesOverlap (s : State) (n m : SlotId) : Bool :=
  s.position n < s.fragmentEnd m && s.position m < s.fragmentEnd n

/-- R30 to R36, R42: the ordered checks of a FRAGMENT in slot `n`; the first that fails decides. -/
def fragmentVerdict (s : State) (n : SlotId) : FragmentVerdict :=
  match fragmentFields s n with
  | none => .refused .badRequest none
  | some h =>
    match s.nameRefusal h (s.generationByte n) with
    | some status => .refused status none
    | none =>
      let c := s.stream h
      if c.state ≠ .opened ∧ c.state ≠ .ending then .refused .wrongState (some h)
      else if s.position n < c.frontier then .refused .overlap (some h)
      else if c.declaredEnd.any (· < s.fragmentEnd n) then .refused .beyondEnd (some h)
      else if endConflicts s n c then .refused .endConflict (some h)
      else if c.holdList.any (rangesOverlap s n) then .refused .overlap (some h)
      else if s.position n = c.frontier then .inOrder h
      else if c.holdList.length = c.holdLimit ∨ s.ou.heldCount = Config.holdCap then .refused .holdFull (some h)
      else .held h

/-- R40, R44: the gap timer loaded with the gap timeout, 1000 ticks to the millisecond; stopped when the timeout is
0. -/
def loadedTimer (timeout : BitVec 16) : Option Nat :=
  if timeout = 0 then none else some (timeout.toNat * Config.ticksPerMs)

/-- R38 step 4, R41, R43: the declared end after a FRAGMENT in slot `n` is accepted or held. -/
def declaredEndAfter (s : State) (n : SlotId) (c : StreamContext) : Option Nat :=
  if s.lastFlag n ∧ c.declaredEnd = none then some (s.fragmentEnd n) else c.declaredEnd

/-- R39: promotion: while the head of the hold list begins at the frontier, it is promoted and the frontier moves to
its end. Gives the promoted slots, the hold list left, and the frontier reached. -/
def promote (s : State) (frontier : Nat) : List SlotId → List SlotId × List SlotId × Nat
  | [] => ([], [], frontier)
  | m :: rest =>
    if s.position m = frontier then
      let (promoted, left, reached) := promote s (frontier + s.fragmentLength m) rest
      (m :: promoted, left, reached)
    else ([], m :: rest, frontier)

/-- R38 to R41, R15: a FRAGMENT in slot `n` is accepted in order by stream `h`. -/
def acceptInOrder (n : SlotId) (h : Handle) (s : State) : State :=
  let c := s.stream h
  let (promoted, left, reached) := promote s (c.frontier + s.fragmentLength n) c.holdList
  let declaredEnd := declaredEndAfter s n c
  let items := (n :: promoted).map fun m => { slot := m, stream := h, kind := .fragment : ReadyItem }
  let s := (s.setSlots (n :: promoted) .ready).setStream h
    { c with
      state := if declaredEnd = some reached then .ending else c.state
      frontier := reached
      declaredEnd := declaredEnd
      holdList := left
      inFlight := c.inFlight + 1 + promoted.length
      gapTimer := if left = [] then none else loadedTimer c.gapTimeout }
  { s with
    ap.readyQueue := s.ap.readyQueue ++ items
    ou.heldCount := s.ou.heldCount - promoted.length }

/-- R43: the place of slot `n` in a hold list: directly before the first entry whose offset is greater. -/
def insertHeld (s : State) (n : SlotId) : List SlotId → List SlotId
  | [] => [n]
  | m :: rest => if s.position n < s.position m then n :: m :: rest else m :: insertHeld s n rest

/-- R43, R44: a FRAGMENT in slot `n` is held by stream `h`. -/
def holdFragment (n : SlotId) (h : Handle) (s : State) : State :=
  let c := s.stream h
  let s' := (s.setSlot n .held).setStream h
    { c with
      holdList := insertHeld s n c.holdList
      declaredEnd := declaredEndAfter s n c
      gapTimer := if c.holdList = [] then loadedTimer c.gapTimeout else c.gapTimer }
  { s' with ou.heldCount := s.ou.heldCount + 1 }

/-- R30: the outcome of a FRAGMENT in slot `n`. -/
def fragmentOutcome (n : SlotId) (s : State) : State :=
  match fragmentVerdict s n with
  | .refused status none => refuse n status s
  | .refused status (some h) => refuseNaming n status h s
  | .inOrder h => acceptInOrder n h s
  | .held h => holdFragment n h s

/-- FRAGMENT, R29 to R48, R89, R90. -/
def execFragmentRequest (s : State) : Result := dispatchTake (· == 2) fragmentOutcome s

/-! ### ABORT and RELEASE (R66 to R69) -/

/-- R66: what checks 1 to 3 of an ABORT or RELEASE decide. -/
inductive ControlVerdict where
  | refused (status : Status) (named : Option Handle)
  | passed (h : Handle)
deriving DecidableEq, Repr

/-- R66: the fields of an ABORT or RELEASE: its handle when no flag is set and it is below 64. -/
def controlFields (s : State) (n : SlotId) : Option Handle :=
  if s.flagBits n ≠ 0 then none else handleOfByte (s.handleByte n)

/-- R66: checks 1 to 3 of an ABORT or RELEASE in slot `n`. -/
def controlVerdict (s : State) (n : SlotId) : ControlVerdict :=
  match controlFields s n with
  | none => .refused .badRequest none
  | some h =>
    match s.nameRefusal h (s.generationByte n) with
    | some status => .refused status none
    | none => if (s.stream h).pendingControl.isSome then .refused .wrongState (some h) else .passed h

/-- R67: the request in slot `n` becomes the pending control of stream `h`, WAITING. -/
def waitAsControl (n : SlotId) (h : Handle) (s : State) : State :=
  (s.setSlot n .waiting).updateStream h fun c => { c with pendingControl := some n }

/-- R69: a RELEASE in slot `n`, or an ABORT acting as one, by the stream's state. -/
def releaseStream (n : SlotId) (h : Handle) (s : State) : State :=
  match (s.stream h).state with
  | .final => complete n .ok (some (s.freedRef h)) (freeStream h s)
  | .faulted =>
    if (s.stream h).inFlight = 0 then complete n .ok (some (s.freedRef h)) (freeStream h s)
    else waitAsControl n h s
  | _ => refuseNaming n .wrongState h s

/-- R68: an ABORT in slot `n` tears stream `h`, in OPEN or ENDING, down: with its active item in the AP the stream
becomes ABORTING and the ABORT its pending control; else the stream is freed and the ABORT completes last. -/
def tearDownForAbort (n : SlotId) (h : Handle) (s : State) : State :=
  let endings := removedWork h .abandoned s
  if s.hasActive h then
    let s := waitAsControl n h ((cutActive h (removeWork h s)).updateStream h fun c => { c with state := .aborting })
    completeAll endings (s.refOf h) s
  else
    completeAll (endings ++ [(n, .ok)]) (s.freedRef h) (freeStream h (removeWork h s))

/-- R66, R68: the outcome of an ABORT in slot `n`. -/
def abortOutcome (n : SlotId) (s : State) : State :=
  match controlVerdict s n with
  | .refused status none => refuse n status s
  | .refused status (some h) => refuseNaming n status h s
  | .passed h =>
    match (s.stream h).state with
    | .opened | .ending => tearDownForAbort n h s
    | _ => releaseStream n h s

/-- ABORT, R66 to R68, R89, R90. -/
def execAbortRequest (s : State) : Result := dispatchTake (· == 3) abortOutcome s

/-- R66, R69: the outcome of a RELEASE in slot `n`. -/
def releaseOutcome (n : SlotId) (s : State) : State :=
  match controlVerdict s n with
  | .refused status none => refuse n status s
  | .refused status (some h) => refuseNaming n status h s
  | .passed h => releaseStream n h s

/-- RELEASE, R66, R67, R69, R89, R90. -/
def execReleaseRequest (s : State) : Result := dispatchTake (· == 4) releaseOutcome s

/-! ### EXPORT and IMPORT (R139 to R142) -/

/-- R140, R142: slot `n` becomes WAITING at the tail of the CTU transfer queue. -/
def joinTransferQueue (n : SlotId) (h : Handle) (kind : TransferKind) (s : State) : State :=
  { s.setSlot n .waiting with ctu.queue := s.ctu.queue ++ [{ slot := n, stream := h, kind := kind }] }

/-- R139, R140: the outcome of an EXPORT in slot `n`, by its five ordered checks. -/
def exportOutcome (n : SlotId) (s : State) : State :=
  match controlFields s n with
  | none => refuse n .badRequest s
  | some h =>
    if isAligned (s.hostAddress n) = false then refuse n .badAlign s
    else
      match s.nameRefusal h (s.generationByte n) with
      | some status => refuse n status s
      | none =>
        let c := s.stream h
        if c.state ≠ .opened then refuseNaming n .wrongState h s
        else if c.holdList ≠ [] ∨ 0 < c.inFlight then refuseNaming n .notQuiescent h s
        else joinTransferQueue n h .exporting (s.setStream h { c with state := .exporting })

/-- EXPORT, R139, R140, R89, R90. -/
def execExportRequest (s : State) : Result := dispatchTake (· == 5) exportOutcome s

/-- R141, R142: the outcome of an IMPORT in slot `n`, by its three ordered checks. -/
def importOutcome (n : SlotId) (s : State) : State :=
  if s.flagBits n ≠ 0 then refuse n .badRequest s
  else if isAligned (s.hostAddress n) = false then refuse n .badAlign s
  else
    match s.lowestFree with
    | none => refuse n .noHandle s
    | some h =>
      joinTransferQueue n h .importing
        (s.setStream h { freeContext ((s.stream h).generation + 1) with state := .importing })

/-- IMPORT, R141, R142, R89, R90. -/
def execImportRequest (s : State) : Result := dispatchTake (· == 6) importOutcome s

/-! ### Requests of no known kind (R91) -/

/-- UNKNOWN_KIND, R91: a kind byte of 0 or above 6 completes with BAD_REQUEST. -/
def execUnknownKind (s : State) : Result :=
  dispatchTake (fun k => k == 0 || 6 < k.toNat) (fun n s => refuse n .badRequest s) s

end Sys2Proof.Machine
end

