-- ==== Sys2Proof/Decode.lean ====
section
/-! DEFINITION. Decoding. The opcode table gives no bits to any row, so no word spells a command by it. The decoding
the SD64 does have is the window's: `decodeAccess` gives the command that a host bus access to the window is, by the
ordered tests of R178, and `accessOf` writes the access of a window command. -/

namespace Sys2Proof

/-- R178, R179: an access is narrow when it is no whole word at a multiple of 4. -/
def isNarrow (size : AccessSize) (offset : BitVec 12) : Bool :=
  size != .word || offset.toNat % 4 != 0

/-- R78, R201: the slot word at an offset of 0x400 to 0x9FF. -/
def slotWordAt (n : Nat) : Option Register :=
  if h : 256 ≤ n ∧ n < 640 then
    some (.slotWord ⟨(n - 256) / 8, by omega⟩ ⟨(n - 256) % 8, by omega⟩)
  else none

/-- R201: the register or slot word that the word number `n` of the window (offset `4 * n`) names. -/
def registerAtWord (n : Nat) : Option Register :=
  match n with
  | 0 => some .control
  | 1 => some .status
  | 2 => some .timebase
  | 3 => some .cqConfig
  | 4 => some .intStatus
  | 5 => some .intEnable
  | 6 => some .protoErr
  | 7 => some .protoAddr
  | 8 => some .claim
  | 9 => some .returnSlot
  | 10 => some .post
  | 11 => some .cqPop
  | 12 => some (.cqHead 0)
  | 13 => some (.cqHead 1)
  | 14 => some (.cqHead 2)
  | 15 => some (.cqHead 3)
  | 16 => some .streamSelect
  | 17 => some (.streamInfo 0)
  | 18 => some (.streamInfo 1)
  | 19 => some (.streamInfo 2)
  | 20 => some (.streamInfo 3)
  | 24 => some .digestSelect
  | 25 => some .digestLen
  | n => if h : 32 ≤ n ∧ n < 48 then some (.digest ⟨n - 32, by omega⟩) else slotWordAt n

/-- R180, R201: the register at a window offset; none at an unmapped offset. The offset is taken as that of the word it
lies in. -/
def registerAt (offset : BitVec 12) : Option Register :=
  registerAtWord (offset.toNat / 4)

/-- R201: the window offset of a register. -/
def offsetOf : Register → BitVec 12
  | .control => 0x000
  | .status => 0x004
  | .timebase => 0x008
  | .cqConfig => 0x00C
  | .intStatus => 0x010
  | .intEnable => 0x014
  | .protoErr => 0x018
  | .protoAddr => 0x01C
  | .claim => 0x020
  | .returnSlot => 0x024
  | .post => 0x028
  | .cqPop => 0x02C
  | .cqHead k => BitVec.ofNat 12 (0x030 + 4 * k.val)
  | .streamSelect => 0x040
  | .streamInfo k => BitVec.ofNat 12 (0x044 + 4 * k.val)
  | .digestSelect => 0x060
  | .digestLen => 0x064
  | .digest k => BitVec.ofNat 12 (0x080 + 4 * k.val)
  | .slotWord slot word => BitVec.ofNat 12 (0x400 + 32 * slot.val + 4 * word.val)

/-- R181: the registers a write of which is refused. -/
def isReadOnly : Register → Bool
  | .status | .protoAddr | .claim | .cqHead _ | .streamInfo _ | .digestLen | .digest _ => true
  | _ => false

/-- The command that a well-formed write of `value` to a register is (R178's table). A write of INT_STATUS with all
three cause bits at 0 and a write of PROTO_ERR with the clear bit at 0 change nothing (R174, R183) and are no command.
An INT_STATUS write with several bits at 1 is ONE command, named for the lowest of them (log entry 8). -/
def writeCommand (offset : BitVec 12) (value : Word) : Register → Option Instr
  | .control => some (if value.getLsbD 1 then .engineClear value else .dispatch value)
  | .timebase => some (.timebaseWrite value)
  | .cqConfig => some (.cqConfigWrite value)
  | .intStatus =>
    if value.getLsbD 0 then some (.cqCauseClear value)
    else if value.getLsbD 1 then some (.protoCauseClear value)
    else if value.getLsbD 2 then some (.readyCauseClear value)
    else none
  | .intEnable => some (.intEnableWrite value)
  | .protoErr => if value.getLsbD 31 then some (.protoErrClear value) else none
  | .returnSlot => some (.returnSlot value)
  | .post => some (.post value)
  | .cqPop => some (.cqPop value)
  | .streamSelect => some (.streamSelect value)
  | .digestSelect => some (.digestSelect value)
  | .slotWord slot word => some (.slotWordWrite slot word value)
  | .status | .protoAddr | .claim | .cqHead _ | .streamInfo _ | .digestLen | .digest _ => some (.readOnly offset)

/-- R178: the command that an access to the window is, by its three tests in their order: narrow, unmapped, write to a
read-only register; then the owner. A well-formed read of any register but CLAIM changes nothing (its value is
`Machine.readWindow`), so it is no command. -/
def decodeAccess (a : Access) : Option Instr :=
  if isNarrow a.size a.offset then some (.badWidth a.direction a.size a.offset)
  else
    match registerAt a.offset with
    | none => some (.badAddress a.direction a.offset)
    | some r =>
      match a.direction with
      | .write => writeCommand a.offset a.data r
      | .read => if r = .claim then some .claim else none

/-- A 32-bit write of `value` to a register. -/
def wordWrite (r : Register) (value : Word) : Access :=
  { direction := .write, size := .word, offset := offsetOf r, data := value }

/-- The host bus access that a window command is; none for the commands that come from inside the chip, from the RESET
pin or from the host bus as target. -/
def accessOf : Instr → Option Access
  | .claim => some { direction := .read, size := .word, offset := offsetOf .claim, data := 0 }
  | .returnSlot value => some (wordWrite .returnSlot value)
  | .post value => some (wordWrite .post value)
  | .slotWordWrite slot word value => some (wordWrite (.slotWord slot word) value)
  | .cqPop value => some (wordWrite .cqPop value)
  | .dispatch value => some (wordWrite .control value)
  | .engineClear value => some (wordWrite .control value)
  | .timebaseWrite value => some (wordWrite .timebase value)
  | .cqConfigWrite value => some (wordWrite .cqConfig value)
  | .cqCauseClear value => some (wordWrite .intStatus value)
  | .protoCauseClear value => some (wordWrite .intStatus value)
  | .readyCauseClear value => some (wordWrite .intStatus value)
  | .intEnableWrite value => some (wordWrite .intEnable value)
  | .protoErrClear value => some (wordWrite .protoErr value)
  | .streamSelect value => some (wordWrite .streamSelect value)
  | .digestSelect value => some (wordWrite .digestSelect value)
  | .badWidth direction size offset => some { direction, size, offset, data := 0 }
  | .badAddress direction offset => some { direction, size := .word, offset, data := 0 }
  | .readOnly offset => some { direction := .write, size := .word, offset, data := 0 }
  | .resetAssert | .resetRelease | .startUpSweepEnd | .sweepRss | .sweepStreamTable | .sweepAbsorbPath
  | .sweepCtu | .sweepCu | .clearingSweepEnd | .tick | .gapTimerExpiry _ | .coalescingTimerExpiry
  | .openRequest | .fragmentRequest | .abortRequest | .releaseRequest | .exportRequest | .importRequest
  | .unknownKind | .itemTake | .burstOk _ | .burstRetry | .retryLimit | .burstError | .drainEnd
  | .finalizationEnd | .faultReport | .cutEnd | .transferStart => none

/-- The command that the word `w` of `nbits` bits spells by spec/opcode_table.json. No row of the table is given any
bits, so no word spells a command (log entry 17). -/
def decodeTableWord (_nbits _w : Nat) : Option Instr := none

end Sys2Proof
end

