-- ==== Sys2Proof/Machine/Slots.lean ====
section
/-! DEFINITION. The window's slot commands (spec 04): CLAIM, RETURN, POST and SLOT_WORD_WRITE. -/

namespace Sys2Proof.Machine

/-- R82: what a CLAIM read returns: the slot at the head of the Free Queue in RUN, else NONE. -/
def State.claimValue (s : State) : Word :=
  match s.ec.engine, s.rss.freeQueue with
  | .run, n :: _ => BitVec.ofNat 32 n.val
  | _, _ => Config.noSlot

/-- CLAIM, R82: in RUN the slot at the head of the Free Queue becomes CLAIMED; the read returns its number, or NONE. -/
def execClaim (s : State) : Result :=
  if s.windowOpen then
    let answered := { s with hbi.readData := s.claimValue }
    match s.ec.engine, s.rss.freeQueue with
    | .run, n :: rest => .next { answered.setSlot n .claimed with rss.freeQueue := rest }
    | _, _ => .next answered
  else .next s

/-- R86, R87: the common part of RETURN and POST: in RUN the value names a CLAIMED slot, which `move` moves; else the
write is refused with BAD_SLOT or SLOT_NOT_CLAIMED at the register's offset. In INIT and CLEARING it is ignored. -/
def handOver (register : Register) (value : Word) (move : SlotId → State → State) (s : State) : State :=
  if s.windowOpen ∧ s.running then
    match slotOfWord value with
    | none => protocolError .badSlot (offsetOf register) s
    | some n =>
      if s.slotState n = .claimed then move n s else protocolError .slotNotClaimed (offsetOf register) s
  else s

/-- RETURN, R86: a CLAIMED slot becomes FREE at the tail of the Free Queue. -/
def execReturnSlot (value : Word) (s : State) : Result :=
  .next (handOver .returnSlot value returnToFreeQueue s)

/-- R87: slot `n` becomes POSTED at the tail of the Post Queue. -/
def joinPostQueue (n : SlotId) (s : State) : State :=
  { s.setSlot n .posted with rss.postQueue := s.rss.postQueue ++ [n] }

/-- POST, R87: a CLAIMED slot becomes POSTED at the tail of the Post Queue. -/
def execPost (value : Word) (s : State) : Result :=
  .next (handOver .post value joinPostQueue s)

/-- SLOT_WORD_WRITE, R84, R96: in RUN the word of a CLAIMED slot takes the value; a slot in another state is left, with
SLOT_NOT_CLAIMED captured. In INIT and CLEARING the write is ignored. -/
def execSlotWordWrite (slot : SlotId) (word : Fin 8) (value : Word) (s : State) : Result :=
  if s.windowOpen ∧ s.running then
    if s.slotState slot = .claimed then
      .next { s with rss.words := s.rss.words.set slot (s.rss.words[slot].set word value) }
    else .next (protocolError .slotNotClaimed (offsetOf (.slotWord slot word)) s)
  else .next s

end Sys2Proof.Machine
end

