-- ==== Sys2Proof/Machine/Window.lean ====
section
/-! DEFINITION. The other commands of the register window (spec 08, 09): pops, configuration, causes, CONTROL, the
selects and the refused accesses; and the value of every read of the window (R201). -/

namespace Sys2Proof.Machine

/-! ### The Completion Queue and its interrupt (spec 08) -/

/-- R166: the Backlog's head record enters the Completion Queue, and its slot becomes FREE. -/
def refillFromBacklog (s : State) : State :=
  match s.cu.backlog with
  | [] => s
  | e :: rest => returnToFreeQueue e.slot (writeRecord e.record { s with cu.backlog := rest })

/-- CQ_POP, R166: in RUN the head record is removed and the queue refilled from the Backlog; a pop of an empty queue is
a protocol error. In INIT and CLEARING the write is ignored. -/
def execCqPop (_value : Word) (s : State) : Result :=
  if s.windowOpen ∧ s.running then
    match s.cu.queue with
    | [] => .next (protocolError .cqEmptyPop (offsetOf .cqPop) s)
    | _ :: rest => .next (refillFromBacklog { s with cu.queue := rest })
  else .next s

/-- R168: T as a write of CQ_CONFIG takes it: 0 is taken as 1, and more than 64 as 64. -/
def clampThreshold (t : Nat) : Nat := max 1 (min t 64)

/-- CQ_CONFIG_WRITE, R168: T and W are set; nothing is raised and a running timer keeps its ticks left. -/
def execCqConfigWrite (value : Word) (s : State) : Result :=
  if s.windowOpen then
    .next { s with
      cu.threshold := clampThreshold (value.extractLsb' 0 8).toNat
      cu.holdTime := value.extractLsb' 16 16 }
  else .next s

/-- CQ_CAUSE_CLEAR, R172, R174: a write of INT_STATUS with the CQ bit at 1. -/
def execCqCauseClear (value : Word) (s : State) : Result :=
  if s.windowOpen then .next (writeIntStatus value s) else .next s

/-- PROTO_CAUSE_CLEAR, R174: a write of INT_STATUS with the PROTO bit at 1. -/
def execProtoCauseClear (value : Word) (s : State) : Result :=
  if s.windowOpen then .next (writeIntStatus value s) else .next s

/-- READY_CAUSE_CLEAR, R174: a write of INT_STATUS with the READY bit at 1. -/
def execReadyCauseClear (value : Word) (s : State) : Result :=
  if s.windowOpen then .next (writeIntStatus value s) else .next s

/-- INT_ENABLE_WRITE, R174: the enables are set whole; INT_STATUS does not change. -/
def execIntEnableWrite (value : Word) (s : State) : Result :=
  if s.windowOpen then .next { s with hbi.intEnable := value.extractLsb' 0 3 } else .next s

/-! ### CONTROL, TIMEBASE and the protocol error capture (spec 09) -/

/-- DISPATCH, R186: a write of CONTROL with CLEAR at 0. -/
def execDispatch (value : Word) (s : State) : Result :=
  if s.windowOpen then .next (writeControl value s) else .next s

/-- ENGINE_CLEAR, R186, R187: a write of CONTROL with CLEAR at 1. -/
def execEngineClear (value : Word) (s : State) : Result :=
  if s.windowOpen then .next (writeControl value s) else .next s

/-- TIMEBASE_WRITE, R189: the prescaler is set in every engine state. The restart of the division is time that the
model does not hold (log entry 10). -/
def execTimebaseWrite (value : Word) (s : State) : Result :=
  if s.windowOpen then .next { s with ec.prescaler := value.extractLsb' 0 8 } else .next s

/-- PROTO_ERR_CLEAR, R183: with the clear bit at 1 the capture is emptied and the overrun flag cleared; PROTO stays. -/
def execProtoErrClear (value : Word) (s : State) : Result :=
  if s.windowOpen ∧ value.getLsbD 31 then .next { s with hbi.capture := none, hbi.overrun := false } else .next s

/-! ### The inspection snapshots (R192, R193) -/

/-- STREAM_SELECT, R192, R200: the value is recorded and the named context captured; a value that names no handle
captures zeros. -/
def execStreamSelect (value : Word) (s : State) : Result :=
  if s.windowOpen then
    .next { s with
      hbi.streamSelect := value
      hbi.streamInfo := (handleOfSelect value).elim (Vector.replicate 4 0) fun h => streamInfoWords (s.stream h) }
  else .next s

/-- DIGEST_SELECT, R193, R200: the value is recorded and the digest of a FINAL stream captured with its length; else
zeros. -/
def execDigestSelect (value : Word) (s : State) : Result :=
  if s.windowOpen then
    let digest := (handleOfSelect value).elim [] fun h => capturedDigest (s.stream h)
    .next { s with
      hbi.digestSelect := value
      hbi.digestLen := BitVec.ofNat 32 digest.length
      hbi.digest := digestWords digest }
  else .next s

/-! ### Refused accesses (R179 to R181) -/

/-- R179, R180: a refused read returns 0. -/
def answerRefused (direction : Direction) (s : State) : State :=
  match direction with
  | .read => { s with hbi.readData := 0 }
  | .write => s

/-- R179: an offset rounded down to a multiple of 4. -/
def roundDown (offset : BitVec 12) : BitVec 12 := offset &&& 0xFFC

/-- BAD_WIDTH, R179: a narrow access reaches no register; its rounded offset is captured. An access that is not narrow
is no such happening (log entry 1). -/
def execBadWidth (direction : Direction) (size : AccessSize) (offset : BitVec 12) (s : State) : Result :=
  if s.windowOpen ∧ isNarrow size offset then
    .next (protocolError .badWidth (roundDown offset) (answerRefused direction s))
  else .next s

/-- BAD_ADDRESS, R180: a well-formed access to an unmapped offset. -/
def execBadAddress (direction : Direction) (offset : BitVec 12) (s : State) : Result :=
  if s.windowOpen ∧ !isNarrow .word offset ∧ (registerAt offset).isNone then
    .next (protocolError .badAddress offset (answerRefused direction s))
  else .next s

/-- READ_ONLY, R181: a well-formed write to a read-only register. -/
def execReadOnly (offset : BitVec 12) (s : State) : Result :=
  if s.windowOpen ∧ !isNarrow .word offset ∧ (registerAt offset).any isReadOnly then
    .next (protocolError .readOnly offset s)
  else .next s

/-! ### Reads (R178, R201) -/

/-- The value that a 32-bit read of a register returns (log entry 7). -/
def readRegister (s : State) : Register → Word
  | .control => BitVec.setWidth 32 (BitVec.ofBool s.ec.dispatchEnable)
  | .status => s.statusWord
  | .timebase => s.ec.prescaler.setWidth 32
  | .cqConfig => s.cqConfigWord
  | .intStatus => s.intStatus.setWidth 32
  | .intEnable => s.hbi.intEnable.setWidth 32
  | .protoErr => s.protoErrWord
  | .protoAddr => s.protoAddrWord
  | .claim => s.claimValue
  | .returnSlot | .post | .cqPop => 0
  | .cqHead k => s.headWord k
  | .streamSelect => s.hbi.streamSelect
  | .streamInfo k => s.hbi.streamInfo[k]
  | .digestSelect => s.hbi.digestSelect
  | .digestLen => s.hbi.digestLen
  | .digest k => s.hbi.digest[k]
  | .slotWord slot word => s.slotWord slot word

/-- The value that a read of the window of the size given at an offset returns: 0 for a narrow read (R179) and at an
unmapped offset (R180), else that of the register (log entry 7). -/
def readWindow (s : State) (size : AccessSize) (offset : BitVec 12) : Word :=
  if isNarrow size offset then 0 else (registerAt offset).elim 0 (readRegister s)

end Sys2Proof.Machine
end

