-- ==== Sys2Proof/Machine/Dispatch.lean ====
section
/-! DEFINITION. One arm per command: the meaning it calls. -/

namespace Sys2Proof.Machine

/-- The effect of a command on everything but the queue of commands. -/
def exec (i : Instr) (s : State) : Host.Outcome State Fault Refusal :=
  match i with
  | .claim => Sys2Proof.Machine.execClaim s
  | .returnSlot value => Sys2Proof.Machine.execReturnSlot value s
  | .post value => Sys2Proof.Machine.execPost value s
  | .slotWordWrite slot word value => Sys2Proof.Machine.execSlotWordWrite slot word value s
  | .cqPop value => Sys2Proof.Machine.execCqPop value s
  | .dispatch value => Sys2Proof.Machine.execDispatch value s
  | .engineClear value => Sys2Proof.Machine.execEngineClear value s
  | .timebaseWrite value => Sys2Proof.Machine.execTimebaseWrite value s
  | .cqConfigWrite value => Sys2Proof.Machine.execCqConfigWrite value s
  | .cqCauseClear value => Sys2Proof.Machine.execCqCauseClear value s
  | .protoCauseClear value => Sys2Proof.Machine.execProtoCauseClear value s
  | .readyCauseClear value => Sys2Proof.Machine.execReadyCauseClear value s
  | .intEnableWrite value => Sys2Proof.Machine.execIntEnableWrite value s
  | .protoErrClear value => Sys2Proof.Machine.execProtoErrClear value s
  | .streamSelect value => Sys2Proof.Machine.execStreamSelect value s
  | .digestSelect value => Sys2Proof.Machine.execDigestSelect value s
  | .badWidth direction size offset => Sys2Proof.Machine.execBadWidth direction size offset s
  | .badAddress direction offset => Sys2Proof.Machine.execBadAddress direction offset s
  | .readOnly offset => Sys2Proof.Machine.execReadOnly offset s
  | .resetAssert => Sys2Proof.Machine.execResetAssert s
  | .resetRelease => Sys2Proof.Machine.execResetRelease s
  | .startUpSweepEnd => Sys2Proof.Machine.execStartUpSweepEnd s
  | .sweepRss => Sys2Proof.Machine.execSweepRss s
  | .sweepStreamTable => Sys2Proof.Machine.execSweepStreamTable s
  | .sweepAbsorbPath => Sys2Proof.Machine.execSweepAbsorbPath s
  | .sweepCtu => Sys2Proof.Machine.execSweepCtu s
  | .sweepCu => Sys2Proof.Machine.execSweepCu s
  | .clearingSweepEnd => Sys2Proof.Machine.execClearingSweepEnd s
  | .tick => Sys2Proof.Machine.execTick s
  | .gapTimerExpiry handle => Sys2Proof.Machine.execGapTimerExpiry handle s
  | .coalescingTimerExpiry => Sys2Proof.Machine.execCoalescingTimerExpiry s
  | .openRequest => Sys2Proof.Machine.execOpenRequest s
  | .fragmentRequest => Sys2Proof.Machine.execFragmentRequest s
  | .abortRequest => Sys2Proof.Machine.execAbortRequest s
  | .releaseRequest => Sys2Proof.Machine.execReleaseRequest s
  | .exportRequest => Sys2Proof.Machine.execExportRequest s
  | .importRequest => Sys2Proof.Machine.execImportRequest s
  | .unknownKind => Sys2Proof.Machine.execUnknownKind s
  | .itemTake => Sys2Proof.Machine.execItemTake s
  | .burstOk lanes => Sys2Proof.Machine.execBurstOk lanes s
  | .burstRetry => Sys2Proof.Machine.execBurstRetry s
  | .retryLimit => Sys2Proof.Machine.execRetryLimit s
  | .burstError => Sys2Proof.Machine.execBurstError s
  | .drainEnd => Sys2Proof.Machine.execDrainEnd s
  | .finalizationEnd => Sys2Proof.Machine.execFinalizationEnd s
  | .faultReport => Sys2Proof.Machine.execFaultReport s
  | .cutEnd => Sys2Proof.Machine.execCutEnd s
  | .transferStart => Sys2Proof.Machine.execTransferStart s

end Sys2Proof.Machine
end

