-- ==== Sys2Proof/Safety.lean ====
section
/-! DEFINITION. What a good state of the SD64 is, in the terms the statements use: no slot in two places (R79), ordered
hold lists (R45), the Completion Unit within its bounds (R158), bursts within one aligned block (R108); what the
Completion Unit makes of a list of endings (R94, R162, R163, R170), the capture of an error (R182) and what the end of a
burst leaves of the bus master (R108, R109), in closed form; the refused accesses with their causes (R179 to R182);
and the digest of a message as the manual defines it (R123). -/

namespace Sys2Proof.Machine

/-- R79: every place a slot can be in, with the slot state that says so: each entry of the queues and lists, the active
item, the active transfer and the pending controls. A CLAIMED slot is in no place of the chip. -/
def State.places (s : State) : List (SlotId × SlotState) :=
  s.rss.freeQueue.map (·, SlotState.free) ++
  s.rss.postQueue.map (·, SlotState.posted) ++
  (s.ou.streams.toList.flatMap (·.holdList)).map (·, SlotState.held) ++
  (s.ou.streams.toList.filterMap (·.pendingControl)).map (·, SlotState.waiting) ++
  s.ap.readyQueue.map (fun i => (i.slot, SlotState.ready)) ++
  s.ap.active.toList.map (fun i => (i.slot, SlotState.active)) ++
  s.ctu.queue.map (fun t => (t.slot, SlotState.waiting)) ++
  s.ctu.active.toList.map (fun t => (t.transfer.slot, SlotState.active)) ++
  s.cu.backlog.map (fun e => (e.slot, SlotState.backlog))

/-- R79: no slot is in two places, or twice in one, and each slot's state says the place it is in. -/
def State.placed (s : State) : Prop :=
  (s.places.map Prod.fst).Nodup ∧ ∀ p ∈ s.places, s.slotState p.1 = p.2

/-- R187: while the clearing sweep runs, the blocks it has reached hold nothing, and the RSS, once reached, has every
slot FREE in the Free Queue. -/
def State.sweptClean (s : State) : Prop :=
  (s.ec.swept.rss = true →
    s.rss.postQueue = [] ∧ s.rss.freeQueue = List.finRange 48 ∧ ∀ n, s.slotState n = .free) ∧
  (s.ec.swept.streamTable = true → ∀ h, (s.stream h).holdList = [] ∧ (s.stream h).pendingControl = none) ∧
  (s.ec.swept.absorbPath = true → s.ap.readyQueue = [] ∧ s.ap.active = none) ∧
  (s.ec.swept.ctu = true → s.ctu.queue = [] ∧ s.ctu.active = none) ∧
  (s.ec.swept.cu = true → s.cu.backlog = [])

/-- R79, R187: outside CLEARING every slot is placed; in CLEARING places and slot states may disagree until the sweep
ends, and the blocks already swept are clean. -/
def State.slotsAccounted (s : State) : Prop :=
  if s.ec.engine = .clearing then s.sweptClean else s.placed

/-- R45, R15: the hold list of a stream in OPEN (or frozen in EXPORTING) is strictly ascending with disjoint ranges,
each range is not empty, begins strictly above the frontier and ends at or below a present declared end, the list is no
longer than the hold limit, and the frontier is below a present declared end. -/
def holdOrdered (s : State) (c : StreamContext) : Prop :=
  c.holdList.Pairwise (fun m n => s.fragmentEnd m ≤ s.position n) ∧
  (∀ m ∈ c.holdList, c.frontier < s.position m ∧ 0 < s.fragmentLength m ∧
    ∀ e, c.declaredEnd = some e → s.fragmentEnd m ≤ e) ∧
  c.holdList.length ≤ c.holdLimit ∧
  ∀ e, c.declaredEnd = some e → c.frontier < e

/-- R45, R15, R41, R47: every stream in OPEN or EXPORTING has an ordered hold list, every stream in ENDING an empty one
with its frontier at its declared end, and the device held count is at most 40. -/
def State.holdsOrdered (s : State) : Prop :=
  (∀ h, ((s.stream h).state = .opened ∨ (s.stream h).state = .exporting) → holdOrdered s (s.stream h)) ∧
  (∀ h, (s.stream h).state = .ending →
    (s.stream h).holdList = [] ∧ (s.stream h).declaredEnd = some (s.stream h).frontier) ∧
  s.ou.heldCount ≤ Config.holdCap

/-- R158, R168, R169: the Completion Queue holds at most 64 records and is full while the Backlog is not empty; T is 1
to 64; a running coalescing timer has 1 to 65535 ticks left and the CQ cause clear. -/
def CompletionUnit.bounded (cu : CompletionUnit) : Prop :=
  cu.queue.length ≤ Config.queueCapacity ∧
  (cu.backlog ≠ [] → cu.queue.length = Config.queueCapacity) ∧
  1 ≤ cu.threshold ∧ cu.threshold ≤ 64 ∧
  ∀ n, cu.timer = some n → 1 ≤ n ∧ n ≤ 65535 ∧ cu.cqCause = false

/-- R184, R185, R187: while the RESET pin is asserted the engine is in INIT, and outside CLEARING no block is marked
swept. -/
def EngineControl.consistent (ec : EngineControl) : Prop :=
  (ec.resetPin = true → ec.engine = .init) ∧ (ec.engine ≠ .clearing → ec.swept = Swept.none)

/-- R108: a burst is of at most 64 bytes and a Fetch Engine burst does not cross a 64-byte aligned address boundary. -/
def Burst.withinBlock (b : Burst) : Prop :=
  b.length ≤ 64 ∧ (b.requester = .fetch → b.address.toNat % 64 + b.length ≤ 64)

/-- R123: the blocks of `n` bytes of a list, in order; bytes after the last whole block are left out. -/
def wholeBlocks (n : Nat) (bytes : List Byte) : List (List Byte) :=
  (List.range (bytes.length / n)).map fun k => (bytes.drop (n * k)).take n

/-- R123: the block function applied, in offset order, to every whole block, from a chaining state. -/
def compressAll (alg : Algorithm) (chaining : Vector Byte 64) (bytes : List Byte) : Vector Byte 64 :=
  (wholeBlocks alg.blockSize bytes).foldl (compress alg) chaining

/-- R123, R130: the padded message. -/
def paddedMessage (alg : Algorithm) (message : List Byte) : List Byte :=
  message ++ padding alg message.length

/-- R123: the digest of a message: the block function applied to every block of the padded message, from the initial
value. -/
def messageDigest (alg : Algorithm) (message : List Byte) : List Byte :=
  digestOf alg (compressAll alg (initialChaining alg) (paddedMessage alg message))

/-! ### What the statements say of a happening -/

/-- Several commands taken one after another. -/
def execAll : List Instr → State → Result
  | [], s => .next s
  | c :: rest, s =>
    match exec c s with
    | .next t => execAll rest t
    | r => r

/-- R89, R90: the Dispatcher has slot `n` of kind `kind` to take, with `rest` behind it in the Post Queue. -/
def State.offers (s : State) (kind : Byte) (n : SlotId) (rest : List SlotId) : Prop :=
  s.ec.engine = .run ∧ s.ec.dispatchEnable = true ∧ s.rss.postQueue = n :: rest ∧ s.kindByte n = kind

/-- R12: `h` is the lowest-numbered handle whose context is stream FREE. -/
def State.lowestFreeIs (s : State) (h : Handle) : Prop :=
  (s.stream h).state = .free ∧ ∀ k, k < h → (s.stream k).state ≠ .free

/-- R12: no context is stream FREE. -/
def State.noneFree (s : State) : Prop := ∀ h, (s.stream h).state ≠ .free

/-- R14: the request in slot `n` names the stream of handle `h`, which is allocated, under its generation. -/
def State.names (s : State) (n : SlotId) (h : Handle) : Prop :=
  handleOfByte (s.handleByte n) = some h ∧ (s.stream h).state ≠ .free ∧
  (s.stream h).generation = s.generationByte n

/-- R31: the field checks of the FRAGMENT in slot `n` pass. -/
def State.fragmentFieldsPass (s : State) (n : SlotId) : Prop :=
  1 ≤ s.fragmentLength n ∧ s.fragmentLength n ≤ 1048576 ∧ s.fragmentEnd n ≤ 2 ^ 48 ∧
  s.flagBits n &&& 0xFE#8 = 0 ∧ (s.handleByte n).toNat < 64

/-- R35: the FRAGMENT in slot `n` with LAST agrees with the declared end of the context and strands no held fragment. -/
def State.lastAgrees (s : State) (n : SlotId) (c : StreamContext) : Prop :=
  s.lastFlag n = true →
    (∀ e, c.declaredEnd = some e → s.fragmentEnd n = e) ∧
    (c.declaredEnd = none → ∀ m ∈ c.holdList, s.fragmentEnd m ≤ s.fragmentEnd n)

/-- R36: the range of the FRAGMENT in slot `n` shares no offset with that of a held fragment. -/
def State.clearOfHeld (s : State) (n : SlotId) (c : StreamContext) : Prop :=
  ∀ m ∈ c.holdList, s.fragmentEnd n ≤ s.position m ∨ s.fragmentEnd m ≤ s.position n

/-- R32 to R36: checks 3 to 7 of the FRAGMENT in slot `n` pass for the context. -/
def State.fragmentFits (s : State) (n : SlotId) (c : StreamContext) : Prop :=
  (c.state = .opened ∨ c.state = .ending) ∧ c.frontier ≤ s.position n ∧
  (∀ e, c.declaredEnd = some e → s.fragmentEnd n ≤ e) ∧ s.lastAgrees n c ∧ s.clearOfHeld n c

/-- R24: the checks of the OPEN in slot `n` pass. -/
def State.openFieldsPass (s : State) (n : SlotId) : Prop :=
  s.requestAlgorithm n ≠ none ∧ s.requestHoldLimit n ≤ 16 ∧ s.flagBits n &&& 0xFD#8 = 0 ∧
  (s.endPresentFlag n = true → s.position n ≤ 2 ^ 48)

/-- R182: the protocol error capture and the PROTO cause after an error: an empty capture takes it, a full one keeps
what it holds and the overrun flag is set. -/
def HostInterface.capturing (hbi : HostInterface) (cause : ProtocolError) (offset : BitVec 12) : HostInterface :=
  { hbi with
    capture := some (hbi.capture.getD { cause := cause, offset := offset })
    overrun := hbi.overrun || hbi.capture.isSome
    protoCause := true }

/-- R182: the accesses that are protocol errors, each with its cause and the offset captured (R84, R86, R87, R166, R179
to R181). -/
inductive RefusedWith (s : State) : Instr → ProtocolError → BitVec 12 → Prop where
  /-- R179: the offset is rounded down to a multiple of 4. -/
  | badWidth (direction : Direction) (size : AccessSize) (offset : BitVec 12) :
      size ≠ .word ∨ offset.toNat % 4 ≠ 0 →
      RefusedWith s (.badWidth direction size offset) .badWidth (BitVec.ofNat 12 (offset.toNat / 4 * 4))
  /-- R180. -/
  | badAddress (direction : Direction) (offset : BitVec 12) : offset.toNat % 4 = 0 → registerAt offset = none →
      RefusedWith s (.badAddress direction offset) .badAddress offset
  /-- R181. -/
  | readOnly (r : Register) : isReadOnly r = true → RefusedWith s (.readOnly (offsetOf r)) .readOnly (offsetOf r)
  /-- R84. -/
  | slotWord (n : SlotId) (k : Fin 8) (value : Word) : s.ec.engine = .run → s.slotState n ≠ .claimed →
      RefusedWith s (.slotWordWrite n k value) .slotNotClaimed (offsetOf (.slotWord n k))
  /-- R86, R87: the slot named is not CLAIMED; RETURN lies at 0x024 and POST at 0x028. -/
  | notClaimed (c : Instr) (offset : BitVec 12) (value : Word) (n : SlotId) :
      c = .returnSlot value ∧ offset = 0x024 ∨ c = .post value ∧ offset = 0x028 →
      s.ec.engine = .run → value.toNat = n.val → s.slotState n ≠ .claimed → RefusedWith s c .slotNotClaimed offset
  /-- R86, R87: the value names no slot. -/
  | badSlot (c : Instr) (offset : BitVec 12) (value : Word) :
      c = .returnSlot value ∧ offset = 0x024 ∨ c = .post value ∧ offset = 0x028 →
      s.ec.engine = .run → 48 ≤ value.toNat → RefusedWith s c .badSlot offset
  /-- R166. -/
  | emptyPop (value : Word) : s.ec.engine = .run → s.cu.queue = [] → RefusedWith s (.cqPop value) .cqEmptyPop 0x02C

/-- R102, R103, R105, R112: the Fetch Engine's request for `item` is granted: the chosen buffer is FILLING, the next is
the other, the item's next burst is on the bus, and its retry count is 0. -/
def State.fetchGranted (s : State) (item : ActiveItem) : State :=
  { s with
    ap := { s.ap.setBuffer s.ap.nextFill { state := .filling, data := [] } with
      nextFill := s.ap.nextFill.other
      active := some { item with retryCount := 0 } }
    bma := { s.bma with
      burst := some { requester := .fetch, direction := .read, address := item.nextAddress,
                      length := min item.toFetch (64 - item.nextAddress.toNat % 64), data := [] }
      fetchWaiting := false
      lastGranted := .fetch } }

/-- R146, R150, R112: the CTU's request for its transfer's burst is granted, its retry count 0. -/
def State.ctuGranted (s : State) (a : ActiveTransfer) : State :=
  { s with
    ctu.active := some { a with retryCount := 0 }
    bma := { s.bma with burst := some (transferBurst s a), ctuWaiting := false, lastGranted := .ctu } }

/-- R108, R109: the burst on the bus has ended in RUN: the bus master is idle when no request waits; a request that waits
alone is granted; of two that wait, that of the requester not granted last. -/
def State.busFreed (s : State) : State :=
  let idle : State := { s with bma.burst := none }
  if s.bma.fetchWaiting = true ∧ (s.bma.ctuWaiting = true → s.bma.lastGranted = .ctu) then
    s.ap.active.elim idle s.fetchGranted
  else if s.bma.ctuWaiting = true then s.ctu.active.elim idle s.ctuGranted
  else idle

/-- R162, R170: records written at the tail of the Completion Queue, one after another: with the CQ cause clear, the
cause is raised when the unread count comes to T or above, and otherwise a stopped timer starts. -/
def CompletionUnit.afterWrites (cu : CompletionUnit) (rs : List Record) : CompletionUnit :=
  let queue := cu.queue ++ rs
  if rs = [] ∨ cu.cqCause = true then { cu with queue := queue }
  else if cu.threshold ≤ queue.length then { cu with queue := queue, cqCause := true, timer := none }
  else
    { cu with
      queue := queue
      timer := if cu.timer = none ∧ cu.holdTime ≠ 0 then some cu.holdTime.toNat else cu.timer }

/-- R162: how many endings the Completion Queue takes before the rest join the Backlog. -/
def CompletionUnit.room (cu : CompletionUnit) : Nat :=
  if cu.backlog = [] then Config.queueCapacity - cu.queue.length else 0

/-- R162, R163: the Completion Unit after endings with the records given, in order. -/
def CompletionUnit.afterEndings (cu : CompletionUnit) (rs : List Record) : CompletionUnit :=
  { cu.afterWrites (rs.take cu.room) with
    backlog := cu.backlog ++ (rs.drop cu.room).map fun r => { slot := r.slot, record := r } }

/-- R80: the slot states with the slots given in state `st`. -/
def markSlots (states : Vector SlotState 48) (ns : List SlotId) (st : SlotState) : Vector SlotState 48 :=
  ns.foldl (fun states (n : SlotId) => states.set n st) states

/-- R94: the slots after endings: those of records written are FREE at the tail of the Free Queue, the others
BACKLOG. -/
def SlotStore.afterEndings (rss : SlotStore) (freed kept : List SlotId) : SlotStore :=
  { rss with
    states := markSlots (markSlots rss.states freed .free) kept .backlog
    freeQueue := rss.freeQueue ++ freed }

/-- R94, R162, R163: the state after the endings of one happening with the records given, in order. -/
def State.afterEndings (s : State) (rs : List Record) : State :=
  { s with
    cu := s.cu.afterEndings rs
    rss := s.rss.afterEndings ((rs.take s.cu.room).map (·.slot)) ((rs.drop s.cu.room).map (·.slot)) }

/-- R163: the records outstanding, in the order their requests ended. -/
def State.records (s : State) : List Record := s.cu.queue ++ s.cu.backlog.map (·.record)

/-- R39: the fragments in the slots given lie one after another from offset `start` to offset `stop`. -/
def State.contiguous (s : State) (start stop : Nat) : List SlotId → Prop
  | [] => start = stop
  | m :: rest => s.position m = start ∧ s.contiguous (start + s.fragmentLength m) stop rest

/-- R195: the number that bytes spell, most significant byte first. -/
def bigEndian (bytes : List Byte) : Nat := bytes.foldl (fun n b => 256 * n + b.toNat) 0

end Sys2Proof.Machine
end

