-- ==== Sys2Proof/WellFormed.lean ====
section
/-! DEFINITION. Which commands are well formed: those whose operands are of the row they stand in. -/

namespace Sys2Proof

/-- Every command is well formed but a form of a shared register write whose value belongs to another row (log entry
8), and a refused access that no test of R178 refuses in that way. -/
def Instr.wellFormed : Instr → Bool
  | .dispatch value => !value.getLsbD 1
  | .engineClear value => value.getLsbD 1
  | .cqCauseClear value => value.getLsbD 0
  | .protoCauseClear value => !value.getLsbD 0 && value.getLsbD 1
  | .readyCauseClear value => !value.getLsbD 0 && !value.getLsbD 1 && value.getLsbD 2
  | .protoErrClear value => value.getLsbD 31
  | .badWidth _ size offset => isNarrow size offset
  | .badAddress _ offset => !isNarrow .word offset && (registerAt offset).isNone
  | .readOnly offset => !isNarrow .word offset && (registerAt offset).any isReadOnly
  | .claim | .returnSlot _ | .post _ | .slotWordWrite _ _ _ | .cqPop _ | .timebaseWrite _ | .cqConfigWrite _
  | .intEnableWrite _ | .streamSelect _ | .digestSelect _ | .resetAssert | .resetRelease | .startUpSweepEnd
  | .sweepRss | .sweepStreamTable | .sweepAbsorbPath | .sweepCtu | .sweepCu | .clearingSweepEnd | .tick
  | .gapTimerExpiry _ | .coalescingTimerExpiry | .openRequest | .fragmentRequest | .abortRequest
  | .releaseRequest | .exportRequest | .importRequest | .unknownKind | .itemTake | .burstOk _ | .burstRetry
  | .retryLimit | .burstError | .drainEnd | .finalizationEnd | .faultReport | .cutEnd | .transferStart => true

end Sys2Proof
end

