-- ==== Sys2Proof/Certificates/Slice0/Obligations.lean ====
section
/-! DEFINITION. The statements about the SD64 for the provers. A result is said as an equation that gives the whole
next state, so that it says completion, effect and frame together; `State.afterEndings` (Safety) is what the Completion
Unit makes of the records listed, in order. -/

open Sys2Proof Sys2Proof.Machine

/-! ### Steps and commands -/

/-- A step takes the command at the front of the queue; with none waiting the block idles. The queue is the model's own
(log entries 1 and 2). -/
def Obligations.StepTakesFrontCommand : Prop :=
  (∀ (c : Instr) (rest : List Instr) (s : State), s.pending = c :: rest →
    step s = exec c { s with pending := rest }) ∧
  ∀ s : State, s.pending = [] → step s = .next s

/-- R179 to R182, R113, R114, R147 to R151: every misuse is answered and captured, every failure of the bus ends in a
record, and the SD64 goes on: every command answers a next state, with the commands that wait as they were. The queue of
commands is the model's own (log entries 1 and 24). -/
def Obligations.EveryCommandAnswersNext : Prop :=
  ∀ (c : Instr) (s : State), ∃ t, exec c s = .next t ∧ t.pending = s.pending

/-- R178, R179 to R181, R201: a well-formed window command is read back from the host bus access that it is. Which row
a write of CONTROL or INT_STATUS belongs to, and so `wellFormed`, is the model's choice (log entry 8). -/
def Obligations.WindowCommandDecodesBack : Prop :=
  ∀ (c : Instr) (a : Access), c.wellFormed = true → accessOf c = some a → decodeAccess a = some c

/-- R178: every access to the window is a well-formed command with that access, or changes nothing: a read other than
CLAIM's, a write of INT_STATUS with no cause bit (R174), or a write of PROTO_ERR with the clear bit at 0 (R183). The
data of a read and of a refused write are no part of the command. -/
def Obligations.EveryAccessIsDecoded : Prop :=
  ∀ a : Access,
    match decodeAccess a with
    | some c =>
      c.wellFormed = true ∧
      (accessOf c = some a ∨
        accessOf c = some { a with data := 0 } ∧
          (a.direction = .read ∨ isNarrow a.size a.offset = true ∨ (registerAt a.offset).all isReadOnly = true))
    | none =>
      isNarrow a.size a.offset = false ∧
      ∃ r, registerAt a.offset = some r ∧
        (a.direction = .read ∧ r ≠ .claim ∨
         a.direction = .write ∧ r = .intStatus ∧ a.data.extractLsb' 0 3 = 0 ∨
         a.direction = .write ∧ r = .protoErr ∧ a.data.getLsbD 31 = false)

/-! ### Refused accesses (R179 to R182) -/

/-- R179, with R182's capture: a byte or half-word access, or a word access at an offset that is no multiple of 4, is
BAD_WIDTH at every offset, mapped or not, and in every engine state. The write is ignored and the read returns 0; the
offset captured is rounded down to a multiple of 4. The field that holds the value read is the model's own (log entry
6). -/
def Obligations.NarrowAccessIsRefused : Prop :=
  ∀ (a : Access) (s : State), a.size ≠ .word ∨ a.offset.toNat % 4 ≠ 0 →
    decodeAccess a = some (.badWidth a.direction a.size a.offset) ∧
    (a.direction = .read → readWindow s a.size a.offset = 0) ∧
    (s.ec.resetPin = false →
      exec (.badWidth a.direction a.size a.offset) s = .next { s with hbi :=
        { s.hbi.capturing .badWidth (BitVec.ofNat 12 (a.offset.toNat / 4 * 4)) with
          readData := if a.direction = .read then 0 else s.hbi.readData } })

/-- R180, with R182's capture: a well-formed access to one of the four unmapped ranges, and to no other offset, is
BAD_ADDRESS in every engine state; a read returns 0 and a write is ignored. The field that holds the value read is the
model's own (log entry 6). -/
def Obligations.UnmappedAccessIsRefused : Prop :=
  ∀ (a : Access) (s : State), a.size = .word → a.offset.toNat % 4 = 0 →
    (0x054 ≤ a.offset.toNat ∧ a.offset.toNat ≤ 0x05F ∨ 0x068 ≤ a.offset.toNat ∧ a.offset.toNat ≤ 0x07F ∨
     0x0C0 ≤ a.offset.toNat ∧ a.offset.toNat ≤ 0x3FF ∨ 0xA00 ≤ a.offset.toNat ∧ a.offset.toNat ≤ 0xFFF →
      decodeAccess a = some (.badAddress a.direction a.offset) ∧
      (a.direction = .read → readWindow s a.size a.offset = 0) ∧
      (s.ec.resetPin = false →
        exec (.badAddress a.direction a.offset) s = .next { s with hbi :=
          { s.hbi.capturing .badAddress a.offset with
            readData := if a.direction = .read then 0 else s.hbi.readData } })) ∧
    (registerAt a.offset = none →
      0x054 ≤ a.offset.toNat ∧ a.offset.toNat ≤ 0x05F ∨ 0x068 ≤ a.offset.toNat ∧ a.offset.toNat ≤ 0x07F ∨
      0x0C0 ≤ a.offset.toNat ∧ a.offset.toNat ≤ 0x3FF ∨ 0xA00 ≤ a.offset.toNat ∧ a.offset.toNat ≤ 0xFFF)

/-- R181, with R182's capture: a 32-bit write of any value to one of the read-only registers changes nothing but the
capture, in every engine state. -/
def Obligations.ReadOnlyWriteIsRefused : Prop :=
  ∀ (r : Register) (value : Word) (s : State),
    (r = .status ∨ r = .protoAddr ∨ r = .claim ∨ (∃ k, r = .cqHead k) ∨ (∃ k, r = .streamInfo k) ∨
      r = .digestLen ∨ ∃ k, r = .digest k) →
    decodeAccess { direction := .write, size := .word, offset := offsetOf r, data := value } =
      some (.readOnly (offsetOf r)) ∧
    (s.ec.resetPin = false →
      exec (.readOnly (offsetOf r)) s = .next { s with hbi := s.hbi.capturing .readOnly (offsetOf r) })

/-- R182, R183, R201: every refused access, of each of the six causes: an empty capture takes its cause and offset; a
full one keeps what it holds and the overrun flag is set; PROTO is raised in either case, and nothing else changes but
the data of a refused read, which the model's own field holds (log entry 6). The codes of the causes. PROTO_ERR reads the
captured cause's code in bits 2:0, the overrun flag in bit 8 and 0 elsewhere, and PROTO_ADDR the captured offset, 0 for an
empty capture; a write of PROTO_ERR with bit 31 at 1 empties the capture and clears the flag, leaving PROTO; one with
bit 31 at 0 changes nothing. -/
def Obligations.CaptureKeepsFirstError : Prop :=
  (∀ (c : Instr) (cause : ProtocolError) (offset : BitVec 12) (s : State), s.ec.resetPin = false →
     RefusedWith s c cause offset →
     ∃ t, exec c s = .next t ∧
       t = { s with hbi := { s.hbi with
         capture := t.hbi.capture, overrun := t.hbi.overrun, protoCause := true, readData := t.hbi.readData } } ∧
       (s.hbi.capture = none →
         t.hbi.capture = some { cause := cause, offset := offset } ∧ t.hbi.overrun = s.hbi.overrun) ∧
       (∀ held, s.hbi.capture = some held → t.hbi.capture = some held ∧ t.hbi.overrun = true) ∧
       ((∃ size o, c = .badWidth .read size o) ∨ (∃ o, c = .badAddress .read o) →
         t.hbi.readData = 0) ∧
       ((∀ size o, c ≠ .badWidth .read size o) → (∀ o, c ≠ .badAddress .read o) →
         t.hbi.readData = s.hbi.readData) ∧
       t.intStatus.getLsbD 1 = true) ∧
  [ProtocolError.badWidth, .badAddress, .readOnly, .slotNotClaimed, .badSlot, .cqEmptyPop].map ProtocolError.code =
    [1, 2, 3, 4, 5, 6] ∧
  ∀ (value : Word) (s : State),
    (s.ec.resetPin = false → value.getLsbD 31 = true →
      exec (.protoErrClear value) s = .next { s with hbi.capture := none, hbi.overrun := false }) ∧
    (value.getLsbD 31 = false → exec (.protoErrClear value) s = .next s) ∧
    (readRegister s .protoErr).getLsbD 8 = s.hbi.overrun ∧
    (readRegister s .protoErr).extractLsb' 3 5 = 0 ∧ (readRegister s .protoErr).extractLsb' 9 23 = 0 ∧
    (∀ c, s.hbi.capture = some c →
      (readRegister s .protoErr).extractLsb' 0 3 = c.cause.code ∧
      readRegister s .protoAddr = BitVec.ofNat 32 c.offset.toNat) ∧
    (s.hbi.capture = none →
      (readRegister s .protoErr).extractLsb' 0 3 = 0 ∧ readRegister s .protoAddr = 0)

/-! ### Slots (spec 04) -/

/-- R82: a read of CLAIM in RUN with a slot free, in RUN with none, and outside RUN: the value read and what becomes of
the slot; a narrow read returns 0 and claims nothing, and a write claims nothing. While the RESET pin is asserted the
command changes nothing (DEDUCED, log entry 16). The field that holds the value read is the model's own (log entry
6). -/
def Obligations.ClaimTakesHeadOfFreeQueue : Prop :=
  ∀ s : State, s.ec.consistent →
    (∀ n rest, s.ec.engine = .run → s.rss.freeQueue = n :: rest →
      readRegister s .claim = BitVec.ofNat 32 n.val ∧
      exec .claim s = .next { s with
        hbi.readData := BitVec.ofNat 32 n.val
        rss := { s.rss with states := s.rss.states.set n .claimed, freeQueue := rest } }) ∧
    (s.ec.engine = .run → s.rss.freeQueue = [] →
      readRegister s .claim = 0xFFFFFFFF ∧ exec .claim s = .next { s with hbi.readData := 0xFFFFFFFF }) ∧
    (s.ec.engine ≠ .run →
      readRegister s .claim = 0xFFFFFFFF ∧
      exec .claim s = .next { s with
        hbi.readData := if s.ec.resetPin = true then s.hbi.readData else 0xFFFFFFFF }) ∧
    (∀ size, size ≠ .word →
      readWindow s size (offsetOf .claim) = 0 ∧
      ∃ t, decodeAccess { direction := .read, size := size, offset := offsetOf .claim, data := 0 } =
          some (.badWidth .read size (offsetOf .claim)) ∧
        exec (.badWidth .read size (offsetOf .claim)) s = .next t ∧ t.rss = s.rss) ∧
    ∀ value, ∃ t, decodeAccess (wordWrite .claim value) = some (.readOnly (offsetOf .claim)) ∧
      exec (.readOnly (offsetOf .claim)) s = .next t ∧ t.rss = s.rss

/-- R86: RETURN of a value of 48 or more, of a slot not CLAIMED, and of a CLAIMED slot; outside RUN the write is
ignored. A read of RETURN returns 0; that it is no command is the model's choice (log entry 7). -/
def Obligations.ReturnGivesSlotBack : Prop :=
  ∀ (value : Word) (s : State), s.ec.consistent →
    (s.ec.engine = .run → 48 ≤ value.toNat →
      exec (.returnSlot value) s = .next { s with hbi := s.hbi.capturing .badSlot 0x024 }) ∧
    (∀ n : SlotId, s.ec.engine = .run → value.toNat = n.val → s.slotState n ≠ .claimed →
      exec (.returnSlot value) s = .next { s with hbi := s.hbi.capturing .slotNotClaimed 0x024 }) ∧
    (∀ n : SlotId, s.ec.engine = .run → value.toNat = n.val → s.slotState n = .claimed →
      exec (.returnSlot value) s = .next { s with
        rss := { s.rss with states := s.rss.states.set n .free, freeQueue := s.rss.freeQueue ++ [n] } }) ∧
    (s.ec.engine ≠ .run → exec (.returnSlot value) s = .next s) ∧
    readRegister s .returnSlot = 0 ∧
    decodeAccess { direction := .read, size := .word, offset := 0x024, data := value } = none

/-- R87: POST of a value of 48 or more, of a slot not CLAIMED, and of a CLAIMED slot, whatever its words; outside RUN
the write is ignored. A read of POST returns 0; that it is no command is the model's choice (log entry 7). -/
def Obligations.PostHandsSlotOver : Prop :=
  ∀ (value : Word) (s : State), s.ec.consistent →
    (s.ec.engine = .run → 48 ≤ value.toNat →
      exec (.post value) s = .next { s with hbi := s.hbi.capturing .badSlot 0x028 }) ∧
    (∀ n : SlotId, s.ec.engine = .run → value.toNat = n.val → s.slotState n ≠ .claimed →
      exec (.post value) s = .next { s with hbi := s.hbi.capturing .slotNotClaimed 0x028 }) ∧
    (∀ n : SlotId, s.ec.engine = .run → value.toNat = n.val → s.slotState n = .claimed →
      exec (.post value) s = .next { s with
        rss := { s.rss with states := s.rss.states.set n .posted, postQueue := s.rss.postQueue ++ [n] } }) ∧
    (s.ec.engine ≠ .run → exec (.post value) s = .next s) ∧
    readRegister s .post = 0 ∧
    decodeAccess { direction := .read, size := .word, offset := 0x028, data := value } = none

/-- R84: a write to a word of a CLAIMED slot replaces that word whole and changes nothing else, said through the reads
of every slot word; a slot in another state refuses it; outside RUN it is ignored; a narrow write is BAD_WIDTH. -/
def Obligations.SlotWordWriteNeedsClaim : Prop :=
  ∀ (n : SlotId) (k : Fin 8) (value : Word) (s : State), s.ec.consistent →
    (s.ec.engine = .run → s.slotState n = .claimed →
      ∃ t, exec (.slotWordWrite n k value) s = .next t ∧
        t = { s with rss := { s.rss with words := t.rss.words } } ∧
        ∀ m j, t.slotWord m j = if m = n ∧ j = k then value else s.slotWord m j) ∧
    (s.ec.engine = .run → s.slotState n ≠ .claimed →
      exec (.slotWordWrite n k value) s = .next { s with
        hbi := s.hbi.capturing .slotNotClaimed (BitVec.ofNat 12 (0x400 + 32 * n.val + 4 * k.val)) }) ∧
    (s.ec.engine ≠ .run → exec (.slotWordWrite n k value) s = .next s) ∧
    ∀ size, size ≠ .word →
      decodeAccess { direction := .write, size := size, offset := offsetOf (.slotWord n k), data := value } =
        some (.badWidth .write size (offsetOf (.slotWord n k))) ∧
      ∃ t, exec (.badWidth .write size (offsetOf (.slotWord n k))) s = .next t ∧ t.rss = s.rss

/-! ### The Completion Queue and the interrupt (spec 08) -/

/-- R166: a pop in RUN of an empty queue, of a queue with an empty Backlog, and of one that the Backlog refills, which
leaves a full queue full; outside RUN the write is ignored. A read of CQ_POP returns 0; that it is no command is the
model's choice (log entry 7). A narrow write pops nothing. -/
def Obligations.PopRefillsFromBacklog : Prop :=
  ∀ (value : Word) (s : State), s.ec.consistent →
    (s.ec.engine = .run → s.cu.queue = [] →
      exec (.cqPop value) s = .next { s with hbi := s.hbi.capturing .cqEmptyPop 0x02C }) ∧
    (∀ r rest, s.ec.engine = .run → s.cu.queue = r :: rest → s.cu.backlog = [] →
      exec (.cqPop value) s = .next { s with cu.queue := rest }) ∧
    (∀ r rest e behind, s.ec.engine = .run → s.cu.queue = r :: rest → s.cu.backlog = e :: behind →
      exec (.cqPop value) s = .next { s with
        cu := { ({ s.cu with queue := rest } : CompletionUnit).afterWrites [e.record] with backlog := behind }
        rss := { s.rss with
          states := s.rss.states.set e.slot .free
          freeQueue := s.rss.freeQueue ++ [e.slot] } } ∧
      (({ s.cu with queue := rest } : CompletionUnit).afterWrites [e.record]).queue = rest ++ [e.record] ∧
      (s.cu.bounded → (rest ++ [e.record]).length = 64)) ∧
    (s.ec.engine ≠ .run → exec (.cqPop value) s = .next s) ∧
    readRegister s .cqPop = 0 ∧
    decodeAccess { direction := .read, size := .word, offset := 0x02C, data := value } = none ∧
    ∀ size, size ≠ .word →
      decodeAccess { direction := .write, size := size, offset := 0x02C, data := value } =
        some (.badWidth .write size 0x02C) ∧
      ∃ t, exec (.badWidth .write size 0x02C) s = .next t ∧ t.cu = s.cu ∧ t.rss = s.rss

/-- R168, R189: a write of CQ_CONFIG takes T from bits 7:0, 0 as 1 and more than 64 as 64, and W from bits 31:16;
nothing is raised and no timer changes, and both read back as taken. A write of TIMEBASE takes the prescaler from
bits 7:0, in every engine state, and leaves every timer; it reads back. The division that it restarts is no state of the
model (log entry 10). -/
def Obligations.ConfigurationWritesTakeTheirFields : Prop :=
  (∀ (value : Word) (s : State), s.ec.resetPin = false →
     ∃ t, exec (.cqConfigWrite value) s = .next t ∧
       t = { s with cu := { s.cu with threshold := t.cu.threshold, holdTime := value.extractLsb' 16 16 } } ∧
       ((value.extractLsb' 0 8).toNat = 0 → t.cu.threshold = 1) ∧
       (1 ≤ (value.extractLsb' 0 8).toNat → (value.extractLsb' 0 8).toNat ≤ 64 →
         t.cu.threshold = (value.extractLsb' 0 8).toNat) ∧
       (64 < (value.extractLsb' 0 8).toNat → t.cu.threshold = 64) ∧
       ((readRegister t .cqConfig).extractLsb' 0 8).toNat = t.cu.threshold ∧
       (readRegister t .cqConfig).extractLsb' 16 16 = value.extractLsb' 16 16) ∧
  ∀ (value : Word) (s : State), s.ec.resetPin = false →
    ∃ t, exec (.timebaseWrite value) s = .next t ∧ t = { s with ec.prescaler := value.extractLsb' 0 8 } ∧
      readRegister t .timebase = BitVec.ofNat 32 (value.toNat % 256)

/-- R172, R174: a write of INT_STATUS clears every cause whose bit is 1, and CQ by comparing the unread count with T:
raised again at once, or cleared with the timer started or stopped. That each of the three rows performs the whole write,
whatever value it carries, is the model's choice (log entry 8). R175:
INT_ENABLE is written whole and changes no cause; the interrupt line is asserted exactly while some cause is set
with its enable. -/
def Obligations.InterruptCausesAndLine : Prop :=
  (∀ (c : Instr) (value : Word) (s : State), s.ec.resetPin = false →
     c = .cqCauseClear value ∨ c = .protoCauseClear value ∨ c = .readyCauseClear value →
     exec c s = .next { s with
       hbi := { s.hbi with
         protoCause := s.hbi.protoCause && !value.getLsbD 1
         readyCause := s.hbi.readyCause && !value.getLsbD 2 }
       cu :=
         if value.getLsbD 0 = false ∨ s.cu.cqCause = false then s.cu
         else if s.cu.threshold ≤ s.cu.queue.length then { s.cu with timer := none }
         else if s.cu.queue ≠ [] ∧ s.cu.holdTime ≠ 0 then
           { s.cu with cqCause := false, timer := some s.cu.holdTime.toNat }
         else { s.cu with cqCause := false, timer := none } }) ∧
  (∀ (value : Word) (s : State), s.ec.resetPin = false →
    exec (.intEnableWrite value) s = .next { s with hbi.intEnable := value.extractLsb' 0 3 }) ∧
  ∀ s : State, s.interruptLine = true ↔
    s.cu.cqCause = true ∧ s.hbi.intEnable.getLsbD 0 = true ∨
    s.hbi.protoCause = true ∧ s.hbi.intEnable.getLsbD 1 = true ∨
    s.hbi.readyCause = true ∧ s.hbi.intEnable.getLsbD 2 = true

/-- R171: the coalescing timer runs out at the tick that takes it from 1 to 0: the CQ cause is raised, whatever the
unread count, and the timer stops. While it does not count (R169) or has more left, this tick is not taken. -/
def Obligations.CoalescingTimerRaisesCq : Prop :=
  ∀ s : State,
    (s.ec.engine = .run → s.ec.prescaler ≠ 0 → s.cu.timer = some 1 →
      exec .coalescingTimerExpiry s = .next { s with cu := { s.cu with cqCause := true, timer := none } }) ∧
    (s.ec.engine ≠ .run ∨ s.ec.prescaler = 0 ∨ s.cu.timer ≠ some 1 → exec .coalescingTimerExpiry s = .next s)

/-- R165, R197, R159 to R161: the four words of the head record, part by part, and the empty values. R190, R201: STATUS,
part by part. R160, R197, R201: the codes of the statuses, the stream states and the engine states. -/
def Obligations.HeadRecordAndStatusArePacked : Prop :=
  (∀ (s : State),
     (∀ r rest, s.ec.engine = .run → s.cu.queue = r :: rest →
       readRegister s (.cqHead 0) = r.tag ∧
       (readRegister s (.cqHead 1)).extractLsb' 0 8 = r.status.code ∧
       (readRegister s (.cqHead 1)).extractLsb' 8 8 = r.kind ∧
       ((readRegister s (.cqHead 1)).extractLsb' 16 8).toNat = r.slot.val ∧
       (r.stream = none →
         (readRegister s (.cqHead 1)).extractLsb' 24 8 = 0xFF ∧ readRegister s (.cqHead 2) = 0x000000FF ∧
         readRegister s (.cqHead 3) = 0) ∧
       ∀ ref, r.stream = some ref →
         (readRegister s (.cqHead 1)).extractLsb' 24 8 = BitVec.setWidth 8 ref.state.code ∧
         ((readRegister s (.cqHead 2)).extractLsb' 0 8).toNat = ref.handle.val ∧
         (readRegister s (.cqHead 2)).extractLsb' 8 8 = ref.generation ∧
         (readRegister s (.cqHead 3)).toNat + 2 ^ 32 * ((readRegister s (.cqHead 2)).extractLsb' 16 16).toNat =
           ref.absorbed % 2 ^ 48) ∧
     (s.ec.engine ≠ .run ∨ s.cu.queue = [] →
       readRegister s (.cqHead 0) = 0 ∧ readRegister s (.cqHead 1) = 0x000000FF ∧
       readRegister s (.cqHead 2) = 0 ∧ readRegister s (.cqHead 3) = 0)) ∧
  [Status.ok, .okFinal, .badRequest, .badAlign, .noHandle, .noStream, .stale, .wrongState, .notQuiescent, .overlap,
      .beyondEnd, .endConflict, .holdFull, .abandoned, .gapTimeout, .busError, .retryLimit, .badContext].map
      Status.code =
    [0x00, 0x01, 0x10, 0x11, 0x12, 0x13, 0x14, 0x15, 0x16, 0x20, 0x21, 0x22, 0x23, 0x30, 0x31, 0x40, 0x41, 0x42] ∧
  [StreamState.free, .opened, .ending, .final, .faulted, .aborting, .exporting, .importing].map StreamState.code =
    [0, 1, 2, 3, 4, 5, 6, 7] ∧
  [EngineState.init, .run, .clearing].map EngineState.code = [0, 1, 2] ∧
  ∀ s : State,
    (readRegister s .status).extractLsb' 0 2 = s.ec.engine.code ∧
    (readRegister s .status).getLsbD 2 = s.ec.dispatchEnable ∧
    (readRegister s .status).extractLsb' 3 6 = BitVec.ofNat 6 s.rss.freeQueue.length ∧
    (readRegister s .status).extractLsb' 9 6 = BitVec.ofNat 6 s.rss.postQueue.length ∧
    (readRegister s .status).extractLsb' 15 6 = BitVec.ofNat 6 s.ou.heldCount ∧
    (readRegister s .status).extractLsb' 21 7 = BitVec.ofNat 7 (s.cu.queue.length + s.cu.backlog.length) ∧
    (readRegister s .status).extractLsb' 28 4 = 0

/-! ### The snapshots (R192, R193, R200) -/

/-- R192, R200: a write of STREAM_SELECT records the value and captures the named context into the four STREAM_INFO
words, field by field; a value that names no handle captures zeros. R197, R200: the codes of the stream states, the
fault codes and the algorithms. -/
def Obligations.StreamSelectCapturesContext : Prop :=
  [StreamState.free, .opened, .ending, .final, .faulted, .aborting, .exporting, .importing].map StreamState.code =
    [0, 1, 2, 3, 4, 5, 6, 7] ∧
  [none, some FaultCode.gapTimeout, some .busError, some .retryLimit].map faultBits = [0, 1, 2, 3] ∧
  [Algorithm.d256, .d512].map Algorithm.code = [1, 2] ∧
  ∀ (value : Word) (s : State), s.ec.resetPin = false →
    (64 ≤ value.toNat →
      exec (.streamSelect value) s = .next { s with
        hbi.streamSelect := value, hbi.streamInfo := Vector.replicate 4 0 }) ∧
    ∀ h : Handle, value.toNat = h.val →
      ∃ t, exec (.streamSelect value) s = .next t ∧
        t = { s with hbi.streamSelect := value, hbi.streamInfo := t.hbi.streamInfo } ∧
        let c := s.stream h
        t.hbi.streamInfo[0].extractLsb' 0 26 = BitVec.ofNat 26 (c.frontier - c.absorbed) ∧
        t.hbi.streamInfo[0].extractLsb' 26 3 = c.state.code ∧
        (t.hbi.streamInfo[0].extractLsb' 29 2).toNat = c.algorithm.elim 0 Algorithm.code ∧
        t.hbi.streamInfo[0].getLsbD 31 = c.declaredEnd.isSome ∧
        t.hbi.streamInfo[1].toNat + 2 ^ 32 * (t.hbi.streamInfo[2].extractLsb' 0 16).toNat = c.absorbed % 2 ^ 48 ∧
        t.hbi.streamInfo[2].extractLsb' 16 8 = c.generation ∧
        t.hbi.streamInfo[2].extractLsb' 24 5 = BitVec.ofNat 5 c.holdList.length ∧
        t.hbi.streamInfo[2].extractLsb' 29 2 = faultBits c.faultCode ∧
        t.hbi.streamInfo[3].extractLsb' 0 6 = BitVec.ofNat 6 c.inFlight ∧
        (t.hbi.streamInfo[3].extractLsb' 6 26).toNat =
          c.declaredEnd.elim 0 fun e => min (e - c.frontier) 0x3FFFFFF

/-- R193, R136, R200: a write of DIGEST_SELECT records the value and, of a FINAL stream, captures the digest and its
length, byte `k` of the digest at byte `k` of the DIGEST words with zeros beyond; of anything else, zeros. -/
def Obligations.DigestSelectCapturesDigest : Prop :=
  ∀ (value : Word) (s : State), s.ec.resetPin = false →
    ((∀ h : Handle, value.toNat = h.val → (s.stream h).state ≠ .final) →
      exec (.digestSelect value) s = .next { s with
        hbi.digestSelect := value, hbi.digestLen := 0, hbi.digest := Vector.replicate 16 0 }) ∧
    ∀ (h : Handle) (d : List Byte), value.toNat = h.val → (s.stream h).state = .final →
      (s.stream h).digest = some d →
      ∃ t, exec (.digestSelect value) s = .next t ∧
        t = { s with hbi.digestSelect := value, hbi.digestLen := BitVec.ofNat 32 d.length,
                     hbi.digest := t.hbi.digest } ∧
        ∀ (n : Fin 16) (k : Fin 4), byteOf t.hbi.digest[n] k.val = d.getD (4 * n.val + k.val) 0

/-! ### Engine Control (spec 09) -/

/-- R194, with R27, R97, R120, R137, R157 and R177: the assertion of RESET, from any state, leaves every block at its
power-on values, and no window command changes anything while the pin stays asserted (log entry 16); the commands
waiting are the model's own (log entry 24). -/
def Obligations.ResetAssertGivesPowerOnValues : Prop :=
  (∀ (c : Instr) (a : Access) (s : State), accessOf c = some a → s.ec.resetPin = true → exec c s = .next s) ∧
  ∀ s : State, ∃ t, exec .resetAssert s = .next t ∧ t.pending = s.pending ∧
    t.ec.engine = .init ∧ t.ec.resetPin = true ∧ t.ec.dispatchEnable = true ∧ t.ec.prescaler = 0 ∧
    t.hbi.capture = none ∧ t.hbi.overrun = false ∧ t.intStatus = 0 ∧ t.hbi.intEnable = 0 ∧
    t.interruptLine = false ∧ t.hbi.streamSelect = 0 ∧ t.hbi.digestSelect = 0 ∧
    t.hbi.streamInfo = Vector.replicate 4 0 ∧ t.hbi.digestLen = 0 ∧ t.hbi.digest = Vector.replicate 16 0 ∧
    (∀ n k, t.slotWord n k = 0) ∧ (∀ n, t.slotState n = .free) ∧ t.rss.freeQueue = List.finRange 48 ∧
    t.rss.postQueue = [] ∧ (∀ h, t.stream h = freeContext 0) ∧ t.ou.heldCount = 0 ∧
    t.ap.readyQueue = [] ∧ t.ap.active = none ∧ t.ap.bufferA.state = .empty ∧ t.ap.bufferB.state = .empty ∧
    t.dc.mode = .idle ∧ t.dc.residue = [] ∧ t.dc.chaining = Vector.replicate 64 0 ∧
    t.bma.burst = none ∧ t.bma.fetchWaiting = false ∧ t.bma.ctuWaiting = false ∧ t.bma.lastGranted = .ctu ∧
    t.ctu.queue = [] ∧ t.ctu.active = none ∧ t.ctu.record = Vector.replicate 256 0 ∧
    t.cu.queue = [] ∧ t.cu.backlog = [] ∧ t.cu.threshold = 1 ∧ t.cu.holdTime = 0 ∧ t.cu.timer = none

/-- R185, R184: from reset, the release of the pin and the end of the start-up sweep bring the engine into RUN with
READY raised; the end is taken in INIT with the pin released and not otherwise. STATUS reads 0x184, then 0x185. -/
def Obligations.StartUpEntersRun : Prop :=
  (∀ s : State, exec .resetRelease s = .next { s with ec.resetPin := false }) ∧
  (∀ s : State, s.ec.engine = .init → s.ec.resetPin = false →
    exec .startUpSweepEnd s = .next { s with
      ec := { s.ec with engine := .run, swept := Swept.none }, hbi.readyCause := true }) ∧
  (∀ s : State, s.ec.engine ≠ .init ∨ s.ec.resetPin = true → exec .startUpSweepEnd s = .next s) ∧
  readRegister State.reset .status = 0x184 ∧
  ∃ t, execAll [.resetRelease, .startUpSweepEnd] State.reset = .next t ∧ t.ec.engine = .run ∧
    t.hbi.readyCause = true ∧ readRegister t .status = 0x185 ∧ readRegister t .control = 1 ∧
    readRegister t .timebase = 0 ∧ readRegister t .cqConfig = 1 ∧ readRegister t .intStatus = 4

/-- R186, R187, R28, R110: a write of CONTROL sets dispatch-enable; with CLEAR at 1 in RUN, and only then, the engine
enters CLEARING with every gap timer stopped and the Fetch Engine's request withdrawn. -/
def Obligations.ControlWriteSetsDispatchAndClears : Prop :=
  ∀ (value : Word) (s : State), s.ec.resetPin = false →
    (value.getLsbD 1 = false →
      exec (.dispatch value) s = .next { s with ec.dispatchEnable := value.getLsbD 0 }) ∧
    (value.getLsbD 1 = true → s.ec.engine ≠ .run →
      exec (.engineClear value) s = .next { s with ec.dispatchEnable := value.getLsbD 0 }) ∧
    (value.getLsbD 1 = true → s.ec.engine = .run →
      exec (.engineClear value) s = .next { s with
        ec := { s.ec with engine := .clearing, dispatchEnable := value.getLsbD 0, swept := Swept.none }
        ou.streams := s.ou.streams.map fun c => { c with gapTimer := none }
        bma.fetchWaiting := false })

/-- R98, R28, R119, R138, R156, R176, R183, R187: each block's sweep, taken in CLEARING with no burst on the bus, and
the end of the sweep once every block has been reached. The marks of the blocks swept are the model's own (log entry
15), and so are the two buffer pointers (log entry 21). -/
def Obligations.SweepsResetTheirBlocks : Prop :=
  ∀ s : State, s.ec.engine = .clearing →
    (s.bma.burst = none →
      (s.ec.swept.rss = false → exec .sweepRss s = .next { s with
        ec.swept.rss := true
        rss := { words := s.rss.words, states := Vector.replicate 48 .free, freeQueue := List.finRange 48,
                 postQueue := [] } }) ∧
      (s.ec.swept.streamTable = false → exec .sweepStreamTable s = .next { s with
        ec.swept.streamTable := true
        ou := { streams := s.ou.streams.map fun c => freeContext c.generation, heldCount := 0 } }) ∧
      (s.ec.swept.absorbPath = false → exec .sweepAbsorbPath s = .next { s with
        ec.swept.absorbPath := true
        ap := { readyQueue := [], active := none, bufferA := Buffer.cleared, bufferB := Buffer.cleared,
                nextFill := .a, nextDrain := .a }
        dc := DigestCore.atRest
        bma := { burst := none, fetchWaiting := false, ctuWaiting := false, lastGranted := .ctu } }) ∧
      (s.ec.swept.ctu = false → exec .sweepCtu s = .next { s with
        ec.swept.ctu := true
        ctu := { queue := [], active := none, record := Vector.replicate 256 0 }
        bma.ctuWaiting := false }) ∧
      (s.ec.swept.cu = false → exec .sweepCu s = .next { s with
        ec.swept.cu := true
        cu := { s.cu with queue := [], backlog := [], timer := none, cqCause := false }
        hbi := { s.hbi with protoCause := false, readyCause := false, capture := none, overrun := false } })) ∧
    (s.ec.swept = { rss := true, streamTable := true, absorbPath := true, ctu := true, cu := true } →
      exec .clearingSweepEnd s = .next { s with
        ec := { s.ec with engine := .run, swept := Swept.none }, hbi.readyCause := true })

/-- R187: an engine clear taken with no burst on the bus, its five sweeps in ANY order, and its end leave the chip in
one and the same state: what the table of R187 keeps is kept, and all else is at its reset value. The read data kept (log
entry 6), the marks of the blocks swept (log entry 15), the two buffer pointers (log entry 21) and the commands that wait
(log entry 24) are the model's own. A burst on the bus at the clear ends first, by UnwantedBurstEndsAtItsAnswer. -/
def Obligations.ClearOutcomeIsOrderFree : Prop :=
  ∀ (value : Word) (order : List Instr) (s : State),
    s.ec.resetPin = false → s.ec.engine = .run → s.bma.burst = none → value.getLsbD 1 = true →
    order.Perm [.sweepRss, .sweepStreamTable, .sweepAbsorbPath, .sweepCtu, .sweepCu] →
    execAll (.engineClear value :: order ++ [.clearingSweepEnd]) s = .next { State.reset with
      ec := { s.ec with dispatchEnable := value.getLsbD 0, swept := Swept.none }
      hbi := { s.hbi with protoCause := false, readyCause := true, capture := none, overrun := false }
      rss := { SlotStore.reset with words := s.rss.words }
      ou := { streams := s.ou.streams.map fun c => freeContext c.generation, heldCount := 0 }
      cu := { s.cu with queue := [], backlog := [], timer := none, cqCause := false }
      pending := s.pending }

/-! ### Ticks and expiries (spec 03.1, 08.5) -/

/-- R189, R58, R169, R171: a tick with no gap timer about to expire. With the prescaler at 0 or outside RUN nothing
counts; with dispatch disabled the coalescing timer alone does; else every running timer falls by one. R58, R60:
what a tick does to each stream, whatever the other streams' timers do: a stopped timer stays, one with more than 1
tick left falls by one, and one with 1 tick left faults its stream. -/
def Obligations.TickReachesEveryTimer : Prop :=
  (∀ s : State,
     (s.ec.engine ≠ .run ∨ s.ec.prescaler = 0 → exec .tick s = .next s) ∧
     (s.ec.engine = .run → s.ec.prescaler ≠ 0 →
       (s.ec.dispatchEnable = false ∨ ∀ h n, (s.stream h).gapTimer = some n → 2 ≤ n) →
       exec .tick s = .next { s with
         cu :=
           if s.cu.timer = some 1 then { s.cu with cqCause := true, timer := none }
           else if s.cu.timer = some 0 then { s.cu with cqCause := true, timer := none }
           else { s.cu with timer := s.cu.timer.map (· - 1) }
         ou.streams :=
           if s.ec.dispatchEnable = true then s.ou.streams.map fun c => { c with gapTimer := c.gapTimer.map (· - 1) }
           else s.ou.streams })) ∧
  ∀ (s : State) (h : Handle), s.ec.engine = .run → s.ec.prescaler ≠ 0 → s.ec.dispatchEnable = true →
    ∃ t, exec .tick s = .next t ∧
      ((s.stream h).gapTimer = none → t.stream h = s.stream h) ∧
      (∀ n, 2 ≤ n → (s.stream h).gapTimer = some n →
        t.stream h = { s.stream h with gapTimer := some (n - 1) }) ∧
      ((s.stream h).gapTimer = some 1 →
        t.stream h = { s.stream h with
          state := .faulted
          faultCode := some .gapTimeout
          holdList := []
          gapTimer := none
          inFlight := (s.stream h).inFlight - (s.ap.readyQueue.filter (·.stream == h)).length })

/-- R60, R62 to R64: the expiry of a stream's gap timer: its Ready Queue items end ABANDONED in queue order, then its
held fragments GAP_TIMEOUT in ascending offset, every record showing FAULTED; an active item of it that is fetching is
cut; its frontier, absorbed count, declared end, residue and chaining state stay. -/
def Obligations.GapTimerExpiryFaultsStream : Prop :=
  ∀ (s : State) (h : Handle), s.ec.engine = .run → s.ec.prescaler ≠ 0 → s.ec.dispatchEnable = true →
    (s.stream h).gapTimer = some 1 →
    let c := s.stream h
    let dropped := s.ap.readyQueue.filter (·.stream == h)
    let ref : StreamRef := { state := .faulted, handle := h, generation := c.generation, absorbed := c.absorbed }
    let records := dropped.map (fun i => recordOf s i.slot .abandoned (some ref)) ++
      c.holdList.map (fun n => recordOf s n .gapTimeout (some ref))
    let ou : OrderingUnit :=
      { streams := s.ou.streams.set h { c with
          state := .faulted, faultCode := some .gapTimeout, holdList := [], gapTimer := none,
          inFlight := c.inFlight - dropped.length }
        heldCount := s.ou.heldCount - c.holdList.length }
    ((∀ item, s.ap.active = some item → item.stream ≠ h ∨ s.dc.mode = .finalizing) →
      exec (.gapTimerExpiry h) s = .next (State.afterEndings { s with
        ou := ou, ap.readyQueue := s.ap.readyQueue.filter (·.stream != h) } records)) ∧
    ∀ item, s.ap.active = some item → item.stream = h → s.dc.mode ≠ .finalizing →
      exec (.gapTimerExpiry h) s = .next (State.afterEndings { s with
        ou := ou
        ap := { s.ap.discard .full with
          readyQueue := s.ap.readyQueue.filter (·.stream != h), active := some { item with cut := true } }
        bma.fetchWaiting := false } records)

/-! ### The Dispatcher's takes (spec 01.8, 02, 03.4, 04.6, 07.1, 07.2) -/

/-- R89: outside RUN, with dispatch-enable 0, or with the Post Queue empty, each of the seven takes changes nothing.
R91: a kind byte of 0 or above 6 completes BAD_REQUEST at the take, and its record names no stream; nothing else changes
but where the slot stands. -/
def Obligations.UnknownKindIsBadRequest : Prop :=
  (∀ (c : Instr) (s : State),
     c ∈ [.openRequest, .fragmentRequest, .abortRequest, .releaseRequest, .exportRequest, .importRequest,
       .unknownKind] →
     s.ec.engine ≠ .run ∨ s.ec.dispatchEnable = false ∨ s.rss.postQueue = [] → exec c s = .next s) ∧
  ∀ (s : State) (n : SlotId) (rest : List SlotId) (k : Byte), s.offers k n rest → k = 0 ∨ 6 < k.toNat →
    exec .unknownKind s = .next (State.afterEndings { s with rss.postQueue := rest }
      [{ tag := s.slotWord n 1, status := .badRequest, kind := k, slot := n, stream := none }])

/-- R24, R12: an OPEN whose fields fail completes BAD_REQUEST, one that passes with no context stream FREE completes
NO_HANDLE; neither changes a context, and the record names no stream. R25, R26, R13: an OPEN that passes takes the
lowest-numbered stream FREE handle with its generation advanced; it is OPEN and completes OK at the take, or, with a
declared end of 0, is ENDING with the OPEN's slot in the Ready Queue as a finalize-only item. -/
def Obligations.OpenIsCheckedAndAllocated : Prop :=
  (∀ (s : State) (n : SlotId) (rest : List SlotId), s.offers 1 n rest →
     (¬ s.openFieldsPass n →
       exec .openRequest s = .next (State.afterEndings { s with rss.postQueue := rest }
         [recordOf s n .badRequest none])) ∧
     (s.openFieldsPass n → s.noneFree →
       exec .openRequest s = .next (State.afterEndings { s with rss.postQueue := rest }
         [recordOf s n .noHandle none]))) ∧
  ∀ (s : State) (n : SlotId) (rest : List SlotId) (h : Handle) (alg : Algorithm),
    s.offers 1 n rest → s.openFieldsPass n → s.requestAlgorithm n = some alg → s.lowestFreeIs h →
    let generation := (s.stream h).generation + 1
    let c : StreamContext := { freeContext generation with
      state := .opened
      algorithm := some alg
      holdLimit := s.requestHoldLimit n
      gapTimeout := s.requestGapTimeout n
      chaining := initialChaining alg }
    (s.endPresentFlag n = false →
      exec .openRequest s = .next (State.afterEndings
        { s with rss.postQueue := rest, ou.streams := s.ou.streams.set h c }
        [recordOf s n .ok (some { state := .opened, handle := h, generation := generation, absorbed := 0 })])) ∧
    (s.endPresentFlag n = true → 0 < s.position n →
      exec .openRequest s = .next (State.afterEndings
        { s with
          rss.postQueue := rest
          ou.streams := s.ou.streams.set h { c with declaredEnd := some (s.position n) } }
        [recordOf s n .ok (some { state := .opened, handle := h, generation := generation, absorbed := 0 })])) ∧
    (s.endPresentFlag n = true → s.position n = 0 →
      exec .openRequest s = .next { s with
        rss := { s.rss with postQueue := rest, states := s.rss.states.set n .ready }
        ou.streams := s.ou.streams.set h { c with state := .ending, declaredEnd := some 0, inFlight := 1 }
        ap.readyQueue := s.ap.readyQueue ++ [{ slot := n, stream := h, kind := .finalizeOnly }] })

/-- R30 to R37, R42: each check of a FRAGMENT in its order: the first that fails gives the status, and no context, hold
list, count or timer changes. The record names the stream from check 3 on. -/
def Obligations.FragmentIsRefused : Prop :=
  ∀ (s : State) (n : SlotId) (rest : List SlotId), s.offers 2 n rest →
    let refused (status : Status) (named : Option StreamRef) : Prop :=
      exec .fragmentRequest s = .next (State.afterEndings { s with rss.postQueue := rest }
        [recordOf s n status named])
    (¬ s.fragmentFieldsPass n → refused .badRequest none) ∧
    ∀ h : Handle, s.fragmentFieldsPass n → (s.handleByte n).toNat = h.val →
      let c := s.stream h
      let ref : Option StreamRef := some { state := c.state, handle := h, generation := c.generation,
                                           absorbed := c.absorbed }
      (c.state = .free → refused .noStream none) ∧
      (c.state ≠ .free → c.generation ≠ s.generationByte n → refused .stale none) ∧
      (s.names n h →
        (c.state ≠ .opened → c.state ≠ .ending → refused .wrongState ref) ∧
        (c.state = .opened ∨ c.state = .ending →
          (s.position n < c.frontier → refused .overlap ref) ∧
          (c.frontier ≤ s.position n →
            (∀ e, c.declaredEnd = some e → e < s.fragmentEnd n → refused .beyondEnd ref) ∧
            ((∀ e, c.declaredEnd = some e → s.fragmentEnd n ≤ e) →
              (¬ s.lastAgrees n c → refused .endConflict ref) ∧
              (s.lastAgrees n c → ¬ s.clearOfHeld n c → refused .overlap ref) ∧
              (s.lastAgrees n c → s.clearOfHeld n c → c.frontier < s.position n →
                c.holdList.length = c.holdLimit ∨ s.ou.heldCount = 40 → refused .holdFull ref)))))

/-- R38 to R41, R15: a FRAGMENT at the frontier enters the Ready Queue, followed by the held fragments that lie
contiguous from its end, in ascending offset; the frontier moves to the end of the last, the gap timer is reloaded or
stopped, and at the declared end the stream becomes ENDING. -/
def Obligations.FragmentInOrderIsAccepted : Prop :=
  ∀ (s : State) (n : SlotId) (rest : List SlotId) (h : Handle) (promoted left : List SlotId) (reached : Nat),
    s.offers 2 n rest → s.fragmentFieldsPass n → s.names n h → s.fragmentFits n (s.stream h) →
    s.position n = (s.stream h).frontier →
    (s.stream h).holdList = promoted ++ left → s.contiguous (s.fragmentEnd n) reached promoted →
    (∀ m ∈ left.head?, s.position m ≠ reached) →
    let c := s.stream h
    let declaredEnd := if s.lastFlag n = true ∧ c.declaredEnd = none then some (s.fragmentEnd n) else c.declaredEnd
    exec .fragmentRequest s = .next { s with
      rss := { s.rss with postQueue := rest, states := markSlots s.rss.states (n :: promoted) .ready }
      ou := {
        streams := s.ou.streams.set h { c with
          state := if declaredEnd = some reached then .ending else c.state
          frontier := reached
          declaredEnd := declaredEnd
          holdList := left
          inFlight := c.inFlight + 1 + promoted.length
          gapTimer := if left = [] ∨ c.gapTimeout = 0 then none else some (c.gapTimeout.toNat * 1000) }
        heldCount := s.ou.heldCount - promoted.length }
      ap.readyQueue := s.ap.readyQueue ++
        (n :: promoted).map fun m => { slot := m, stream := h, kind := .fragment } }

/-- R42 to R44, R41: a FRAGMENT above the frontier that finds room is held, directly before the first held fragment of
greater offset; the gap timer starts when the hold list was empty and the gap timeout is not 0, and else goes on. -/
def Obligations.EarlyFragmentIsHeld : Prop :=
  ∀ (s : State) (n : SlotId) (rest : List SlotId) (h : Handle) (before after : List SlotId),
    s.offers 2 n rest → s.fragmentFieldsPass n → s.names n h → s.fragmentFits n (s.stream h) →
    (s.stream h).frontier < s.position n →
    (s.stream h).holdList.length ≠ (s.stream h).holdLimit → s.ou.heldCount ≠ 40 →
    (s.stream h).holdList = before ++ after → (∀ m ∈ before, s.position m ≤ s.position n) →
    (∀ m ∈ after.head?, s.position n < s.position m) →
    let c := s.stream h
    exec .fragmentRequest s = .next { s with
      rss := { s.rss with postQueue := rest, states := s.rss.states.set n .held }
      ou := {
        streams := s.ou.streams.set h { c with
          holdList := before ++ n :: after
          declaredEnd := if s.lastFlag n = true ∧ c.declaredEnd = none then some (s.fragmentEnd n) else c.declaredEnd
          gapTimer :=
            if c.holdList ≠ [] then c.gapTimer
            else if c.gapTimeout = 0 then none else some (c.gapTimeout.toNat * 1000) }
        heldCount := s.ou.heldCount + 1 } }

/-- R45, R15, R41, R47: every take of a request keeps the hold lists ordered, disjoint, above the frontier, within the
declared end and the limits, and streams in ENDING with nothing held at their declared end. -/
def Obligations.TakesKeepHoldListsOrdered : Prop :=
  ∀ (c : Instr) (s t : State),
    c ∈ [.openRequest, .fragmentRequest, .abortRequest, .releaseRequest, .exportRequest, .importRequest,
      .unknownKind] →
    s.holdsOrdered → exec c s = .next t → t.holdsOrdered

/-- R66, R14, R68, R69: each check of an ABORT and of a RELEASE in its order, and the states that refuse each. -/
def Obligations.AbortAndReleaseAreRefused : Prop :=
  ∀ (cmd : Instr) (kind : Byte) (s : State) (n : SlotId) (rest : List SlotId),
    cmd = .abortRequest ∧ kind = 3 ∨ cmd = .releaseRequest ∧ kind = 4 → s.offers kind n rest →
    let refused (status : Status) (named : Option StreamRef) : Prop :=
      exec cmd s = .next (State.afterEndings { s with rss.postQueue := rest } [recordOf s n status named])
    (64 ≤ (s.handleByte n).toNat ∨ s.flagBits n ≠ 0 → refused .badRequest none) ∧
    ∀ h : Handle, s.flagBits n = 0 → (s.handleByte n).toNat = h.val →
      let c := s.stream h
      let ref : Option StreamRef := some { state := c.state, handle := h, generation := c.generation,
                                           absorbed := c.absorbed }
      (c.state = .free → refused .noStream none) ∧
      (c.state ≠ .free → c.generation ≠ s.generationByte n → refused .stale none) ∧
      (s.names n h →
        (c.pendingControl ≠ none → refused .wrongState ref) ∧
        (c.pendingControl = none → c.state = .aborting ∨ c.state = .exporting ∨ c.state = .importing →
          refused .wrongState ref) ∧
        (c.pendingControl = none → cmd = .releaseRequest → c.state = .opened ∨ c.state = .ending →
          refused .wrongState ref))

/-- R68, R62 to R65, R67: an ABORT of a stream in OPEN or ENDING: the Ready Queue items end ABANDONED in queue order,
then the held fragments in ascending offset. With no active item of its own the stream is freed and the ABORT ends OK
after them, every record showing stream FREE with the absorbed count kept; else it is ABORTING with the ABORT waiting,
and its active item is cut unless it is in its finalization. -/
def Obligations.AbortTearsStreamDown : Prop :=
  ∀ (s : State) (n : SlotId) (rest : List SlotId) (h : Handle),
    s.offers 3 n rest → s.flagBits n = 0 → s.names n h → (s.stream h).pendingControl = none →
    (s.stream h).state = .opened ∨ (s.stream h).state = .ending →
    let c := s.stream h
    let dropped := s.ap.readyQueue.filter (·.stream == h)
    let kept := s.ap.readyQueue.filter (·.stream != h)
    let abandoned (ref : StreamRef) : List Record :=
      (dropped.map (·.slot) ++ c.holdList).map fun m => recordOf s m .abandoned (some ref)
    let freed : StreamRef := { state := .free, handle := h, generation := c.generation, absorbed := c.absorbed }
    let aborting : StreamRef := { freed with state := .aborting }
    let waiting : State := { s with
      rss := { s.rss with postQueue := rest, states := s.rss.states.set n .waiting }
      ou := {
        streams := s.ou.streams.set h { c with
          state := .aborting, holdList := [], gapTimer := none, inFlight := c.inFlight - dropped.length,
          pendingControl := some n }
        heldCount := s.ou.heldCount - c.holdList.length }
      ap.readyQueue := kept }
    ((∀ item, s.ap.active = some item → item.stream ≠ h) →
      exec .abortRequest s = .next (State.afterEndings
        { s with
          rss.postQueue := rest
          ou := { streams := s.ou.streams.set h (freeContext c.generation)
                  heldCount := s.ou.heldCount - c.holdList.length }
          ap.readyQueue := kept }
        (abandoned freed ++ [recordOf s n .ok (some freed)]))) ∧
    ∀ item, s.ap.active = some item → item.stream = h →
      (s.dc.mode ≠ .finalizing →
        exec .abortRequest s = .next (State.afterEndings
          { waiting with
            ap := { waiting.ap.discard .full with active := some { item with cut := true } }
            bma.fetchWaiting := false }
          (abandoned aborting))) ∧
      (s.dc.mode = .finalizing →
        exec .abortRequest s = .next (State.afterEndings waiting (abandoned aborting)))

/-- R69, R67: a RELEASE, and an ABORT acting as one, of a stream in FINAL, or in FAULTED with nothing in flight, frees
it and ends OK at the take, the record showing stream FREE with the absorbed count kept; in FAULTED with an item in
flight it waits as pending control. -/
def Obligations.ReleaseFreesFinishedStream : Prop :=
  ∀ (cmd : Instr) (kind : Byte) (s : State) (n : SlotId) (rest : List SlotId) (h : Handle),
    cmd = .abortRequest ∧ kind = 3 ∨ cmd = .releaseRequest ∧ kind = 4 → s.offers kind n rest →
    s.flagBits n = 0 → s.names n h → (s.stream h).pendingControl = none →
    let c := s.stream h
    (c.state = .final ∨ c.state = .faulted ∧ c.inFlight = 0 →
      exec cmd s = .next (State.afterEndings
        { s with rss.postQueue := rest, ou.streams := s.ou.streams.set h (freeContext c.generation) }
        [recordOf s n .ok
          (some { state := .free, handle := h, generation := c.generation, absorbed := c.absorbed })])) ∧
    (c.state = .faulted → 0 < c.inFlight →
      exec cmd s = .next { s with
        rss := { s.rss with postQueue := rest, states := s.rss.states.set n .waiting }
        ou.streams := s.ou.streams.set h { c with pendingControl := some n } })

/-- R139, R140: the five checks of an EXPORT in their order; one that passes makes the stream EXPORTING and joins the
transfer queue, WAITING, and no other field of the context changes. -/
def Obligations.ExportIsCheckedAndQueued : Prop :=
  ∀ (s : State) (n : SlotId) (rest : List SlotId), s.offers 5 n rest →
    let refused (status : Status) (named : Option StreamRef) : Prop :=
      exec .exportRequest s = .next (State.afterEndings { s with rss.postQueue := rest }
        [recordOf s n status named])
    (64 ≤ (s.handleByte n).toNat ∨ s.flagBits n ≠ 0 → refused .badRequest none) ∧
    ∀ h : Handle, s.flagBits n = 0 → (s.handleByte n).toNat = h.val →
      let c := s.stream h
      let ref : Option StreamRef := some { state := c.state, handle := h, generation := c.generation,
                                           absorbed := c.absorbed }
      ((s.hostAddress n).toNat % 64 ≠ 0 → refused .badAlign none) ∧
      ((s.hostAddress n).toNat % 64 = 0 →
        (c.state = .free → refused .noStream none) ∧
        (c.state ≠ .free → c.generation ≠ s.generationByte n → refused .stale none) ∧
        (s.names n h →
          (c.state ≠ .opened → refused .wrongState ref) ∧
          (c.state = .opened → c.holdList ≠ [] ∨ 0 < c.inFlight → refused .notQuiescent ref) ∧
          (c.state = .opened → c.holdList = [] → c.inFlight = 0 →
            exec .exportRequest s = .next { s with
              rss := { s.rss with postQueue := rest, states := s.rss.states.set n .waiting }
              ou.streams := s.ou.streams.set h { c with state := .exporting }
              ctu.queue := s.ctu.queue ++ [{ slot := n, stream := h, kind := .exporting }] })))

/-- R141, R142, R12, R13: the three checks of an IMPORT in their order; one that passes takes the lowest-numbered
stream FREE handle, IMPORTING under its advanced generation, and joins the transfer queue, WAITING. -/
def Obligations.ImportIsCheckedAndQueued : Prop :=
  ∀ (s : State) (n : SlotId) (rest : List SlotId), s.offers 6 n rest →
    let refused (status : Status) : Prop :=
      exec .importRequest s = .next (State.afterEndings { s with rss.postQueue := rest }
        [recordOf s n status none])
    (s.flagBits n ≠ 0 → refused .badRequest) ∧
    (s.flagBits n = 0 → (s.hostAddress n).toNat % 64 ≠ 0 → refused .badAlign) ∧
    (s.flagBits n = 0 → (s.hostAddress n).toNat % 64 = 0 → s.noneFree → refused .noHandle) ∧
    ∀ h, s.flagBits n = 0 → (s.hostAddress n).toNat % 64 = 0 → s.lowestFreeIs h →
      exec .importRequest s = .next { s with
        rss := { s.rss with postQueue := rest, states := s.rss.states.set n .waiting }
        ou.streams := s.ou.streams.set h
          { freeContext ((s.stream h).generation + 1) with state := .importing }
        ctu.queue := s.ctu.queue ++ [{ slot := n, stream := h, kind := .importing }] }

/-! ### The Absorb Path and the Digest Core (spec 05, 06) -/

/-- R52, R101, R102, R105, R109, R125, R129: the take of the head of the Ready Queue. A finalize-only item begins its
finalization. A FRAGMENT item, with both buffers EMPTY, loads the working copy and has its first burst granted into
buffer A when the bus master is idle with no request waiting, or waits when the CTU's burst is on the bus; that it is
there in the happening of the take rests on log entry 11. The next address 0 of a finalize-only item is the model's
choice (log entry 26), and so are the two buffer pointers at its take (log entry 21). -/
def Obligations.ItemTakeSetsUpActiveItem : Prop :=
  ∀ s : State,
    (s.ec.engine ≠ .run ∨ s.ap.active ≠ none ∨ s.ap.readyQueue = [] → exec .itemTake s = .next s) ∧
    ∀ (n : SlotId) (h : Handle) (kind : ItemKind) (rest : List ReadyItem),
      s.ec.engine = .run → s.ap.active = none →
      s.ap.readyQueue = { slot := n, stream := h, kind := kind } :: rest →
      let c := s.stream h
      let item : ActiveItem :=
        { slot := n, stream := h, kind := kind, nextAddress := 0, toFetch := 0, toDrain := 0, retryCount := 0,
          cut := false, failure := none }
      let fragment : ActiveItem := { item with nextAddress := s.hostAddress n, toFetch := s.fragmentLength n }
      let loaded (mode : DigestMode) : DigestCore :=
        { mode := mode, algorithm := c.algorithm, residue := c.residue, chaining := c.chaining }
      (kind = .finalizeOnly →
        exec .itemTake s = .next { s with
          rss.states := s.rss.states.set n .active
          ap := { s.ap with readyQueue := rest, active := some item, nextFill := .a, nextDrain := .a }
          dc := loaded .finalizing }) ∧
      (kind = .fragment → 0 < s.fragmentLength n → s.ap.bufferA.state = .empty → s.ap.bufferB.state = .empty →
        s.bma.fetchWaiting = false →
        (s.bma.burst = none → s.bma.ctuWaiting = false →
          exec .itemTake s = .next { s with
            rss.states := s.rss.states.set n .active
            ap := { s.ap with
              readyQueue := rest, active := some fragment, bufferA := { state := .filling, data := [] },
              nextFill := .b, nextDrain := .a }
            dc := loaded .idle
            bma := { s.bma with
              burst := some { requester := .fetch, direction := .read, address := s.hostAddress n,
                              length := min (s.fragmentLength n) (64 - (s.hostAddress n).toNat % 64), data := [] }
              lastGranted := .fetch } }) ∧
        (∀ b, s.bma.burst = some b → b.requester = .ctu →
          exec .itemTake s = .next { s with
            rss.states := s.rss.states.set n .active
            ap := { s.ap with readyQueue := rest, active := some fragment, nextFill := .a, nextDrain := .a }
            dc := loaded .idle
            bma.fetchWaiting := true }))

/-- R111, R102 to R106, R109: an OK answer to the burst of an item neither cut nor failed fills the FILLING buffer with
the burst's bytes and moves the item on; an idle Digest Core begins draining the buffer that is the next to drain, this
one or the other, when it is FULL, and the other buffer else keeps its state and bytes. With the CTU's request waiting,
its burst is granted. With none waiting, and the other buffer EMPTY while bytes are left, the next burst, of the length
R102 gives, is granted and that buffer becomes FILLING. That these fall in one happening, in this order, rests on log
entry 11; the two buffer pointers are the model's own (log entry 21). -/
def Obligations.FetchedBurstFillsBuffer : Prop :=
  ∀ (s : State) (b : Burst) (item : ActiveItem) (lanes : Vector Byte 64) (i : BufferId),
    s.ec.engine = .run → s.bma.burst = some b → b.requester = .fetch → s.ap.active = some item →
    item.cut = false → item.failure = none → (s.ap.buffer i).state = .filling →
    (s.ap.buffer i.other).state ≠ .filling → s.ap.nextFill = i.other →
    let moved : ActiveItem := { item with
      nextAddress := item.nextAddress + BitVec.ofNat 32 b.length
      toFetch := item.toFetch - b.length
      toDrain := item.toDrain + b.length
      retryCount := 0 }
    let other := s.ap.buffer i.other
    let kept : Buffer :=
      if s.dc.mode = .idle ∧ s.ap.nextDrain = i.other ∧ other.state = .full then { other with state := .draining }
      else other
    let wanted := 0 < moved.toFetch ∧ other.state = .empty
    ∃ t, exec (.burstOk lanes) s = .next t ∧
      t = { s with ap := t.ap, dc.mode := t.dc.mode, bma := t.bma, ctu.active := t.ctu.active } ∧
      t.ap.readyQueue = s.ap.readyQueue ∧ t.ap.active = some moved ∧
      (t.ap.buffer i).data = lanes.toList.take b.length ∧
      (t.ap.buffer i).state = (if s.dc.mode = .idle ∧ s.ap.nextDrain = i then .draining else .full) ∧
      t.ap.nextDrain = s.ap.nextDrain ∧
      (s.bma.fetchWaiting = false →
        t.dc.mode = (if s.dc.mode = .idle ∧ (s.ap.nextDrain = i ∨ other.state = .full) then .draining
                     else s.dc.mode) ∧
        (s.bma.ctuWaiting = false → t.ctu.active = s.ctu.active) ∧
        (s.bma.ctuWaiting = false → wanted →
          t.ap.buffer i.other = { state := .filling, data := [] } ∧ t.ap.nextFill = i ∧
          t.bma = {
            burst := some { requester := .fetch, direction := .read, address := moved.nextAddress,
                            length := min moved.toFetch (64 - moved.nextAddress.toNat % 64), data := [] }
            fetchWaiting := false
            ctuWaiting := false
            lastGranted := .fetch }) ∧
        (s.bma.ctuWaiting = false → ¬ wanted →
          t.ap.buffer i.other = kept ∧ t.ap.nextFill = i.other ∧ t.bma = { s.bma with burst := none }) ∧
        ∀ a, s.bma.ctuWaiting = true → s.ctu.active = some a →
          t.ap.buffer i.other = kept ∧ t.ap.nextFill = i.other ∧
          t.ctu.active = some { a with retryCount := 0 } ∧
          t.bma = {
            burst := some (transferBurst s a)
            fetchWaiting := decide wanted
            ctuWaiting := false
            lastGranted := .ctu })

/-- R112, R147: a RETRY below the sixteenth to a burst still wanted counts, and the same burst stays on the bus with
nothing else changed; RETRY_LIMIT is then no happening. -/
def Obligations.RetryKeepsTheBurst : Prop :=
  ∀ (s : State) (b : Burst), s.ec.engine = .run → s.bma.burst = some b →
    (∀ item, b.requester = .fetch → s.ap.active = some item → item.cut = false → item.retryCount + 1 < 16 →
      exec .burstRetry s = .next { s with ap.active := some { item with retryCount := item.retryCount + 1 } } ∧
      exec .retryLimit s = .next s) ∧
    ∀ a, b.requester = .ctu → s.ctu.active = some a → a.retryCount + 1 < 16 →
      exec .burstRetry s = .next { s with ctu.active := some { a with retryCount := a.retryCount + 1 } } ∧
      exec .retryLimit s = .next s

/-- R113, R112: ERROR, or the sixteenth consecutive RETRY, to a Fetch Engine burst of an item not cut records the
failure in the item, empties its FILLING and FULL buffers and frees the bus master, for the CTU's request when it waits
(R109); a DRAINING buffer goes on. -/
def Obligations.FetchFailureIsRecorded : Prop :=
  ∀ (cmd : Instr) (failure : BusFailure) (s : State) (b : Burst) (item : ActiveItem),
    s.ec.engine = .run → s.bma.burst = some b → b.requester = .fetch → s.ap.active = some item →
    item.cut = false →
    cmd = .burstError ∧ failure = .busError ∨
      (cmd = .retryLimit ∨ cmd = .burstRetry) ∧ failure = .retryLimit ∧ item.retryCount = 15 →
    ∃ count, exec cmd s = .next (State.busFreed { s with
      ap := { s.ap with
        bufferA := if s.ap.bufferA.state = .filling ∨ s.ap.bufferA.state = .full then Buffer.cleared
                   else s.ap.bufferA
        bufferB := if s.ap.bufferB.state = .filling ∨ s.ap.bufferB.state = .full then Buffer.cleared
                   else s.ap.bufferB
        active := some { item with retryCount := count, failure := some failure } } })

/-- R112, R116, R119, R109: an answer of any of the three kinds, in CLEARING to any burst, or in RUN to the burst of a cut
item, ends the burst: its data is discarded, a FILLING buffer of a fetch becomes EMPTY, no failure is recorded, and only a
retry count may change beside. In RUN the bus master is freed, for the CTU's request when it waits; in CLEARING nothing is
granted. -/
def Obligations.UnwantedBurstEndsAtItsAnswer : Prop :=
  ∀ (cmd : Instr) (s : State) (b : Burst), s.bma.burst = some b →
    (∃ lanes, cmd = .burstOk lanes) ∨ cmd = .burstRetry ∨ cmd = .burstError →
    s.ec.engine = .clearing ∨
      s.ec.engine = .run ∧ b.requester = .fetch ∧ (∃ item, s.ap.active = some item ∧ item.cut = true) →
    ∃ fetchCount transferCount : Nat → Nat,
      let ended : State := { s with
        ap := { s.ap with
          bufferA := if b.requester = .fetch ∧ s.ap.bufferA.state = .filling then Buffer.cleared else s.ap.bufferA
          bufferB := if b.requester = .fetch ∧ s.ap.bufferB.state = .filling then Buffer.cleared else s.ap.bufferB
          active := s.ap.active.map fun item => { item with retryCount := fetchCount item.retryCount } }
        ctu.active := s.ctu.active.map fun a => { a with retryCount := transferCount a.retryCount } }
      exec cmd s = .next (if s.ec.engine = .run then ended.busFreed else { ended with bma.burst := none })

/-- R109, R112, R105: when an answer ends a burst in RUN while the other requester waits (OK or ERROR, a RETRY of a cut
item, or the sixteenth RETRY, under BURST_RETRY and RETRY_LIMIT alike), the other's burst goes onto the bus in the same
happening, its retry count 0; for a burst of the Fetch Engine the chosen buffer becomes FILLING, and the two buffers are
filled in turn. -/
def Obligations.WaitingRequesterIsGrantedNext : Prop :=
  ∀ (cmd : Instr) (s : State) (b : Burst), s.ec.engine = .run → s.bma.burst = some b →
    (∃ lanes, cmd = .burstOk lanes) ∨ cmd = .burstError ∨
      cmd = .burstRetry ∧ b.requester = .fetch ∧
        (∃ item, s.ap.active = some item ∧ (item.cut = true ∨ item.retryCount = 15)) ∨
      cmd = .retryLimit ∧ b.requester = .fetch ∧
        (∃ item, s.ap.active = some item ∧ item.cut = false ∧ item.retryCount = 15) ∨
      (cmd = .burstRetry ∨ cmd = .retryLimit) ∧ b.requester = .ctu ∧
        (∃ a, s.ctu.active = some a ∧ a.retryCount = 15) →
    (∀ a, b.requester = .fetch → s.bma.ctuWaiting = true → s.bma.fetchWaiting = false → s.ctu.active = some a →
      ∃ t, exec cmd s = .next t ∧ t.bma.burst = some (transferBurst s a) ∧ t.bma.lastGranted = .ctu ∧
        t.bma.ctuWaiting = false ∧ t.ctu.active = some { a with retryCount := 0 }) ∧
    ∀ item, b.requester = .ctu → s.bma.fetchWaiting = true → s.bma.ctuWaiting = false → s.ap.active = some item →
      ∃ t, exec cmd s = .next t ∧
        t.bma.burst = some { requester := .fetch, direction := .read, address := item.nextAddress,
                             length := min item.toFetch (64 - item.nextAddress.toNat % 64), data := [] } ∧
        t.bma.lastGranted = .fetch ∧ t.bma.fetchWaiting = false ∧
        t.ap = { s.ap.setBuffer s.ap.nextFill { state := .filling, data := [] } with
          readyQueue := t.ap.readyQueue
          active := some { item with retryCount := 0 }
          nextFill := s.ap.nextFill.other }

/-- R106, R127, R5, R8: the end of a drain of an item neither cut nor failed that leaves bytes of it: the absorbed count
rises by the bytes drained, the residue and chaining state that absorption gives are written into the context, and
the working copy agrees with it; no other stream, slot or record changes. R103 to R106, R109: the drained buffer is
EMPTY; the other keeps its state and bytes, or begins its drain when it is FULL; and the item's next burst is requested
when it is wanted, and granted into its buffer, then FILLING, when the bus master is idle with no request waiting. That
these fall in the happening of the drain's end rests on log entry 11; the two buffer pointers are the model's own (log
entry 21). R64: the end of a drain of an item cut or
failed writes nothing into any context; the working copy takes back the context's residue and chaining state, and
the item's bytes to drain fall to 0. -/
def Obligations.DrainIsAbsorbedOrDiscarded : Prop :=
  (∀ (s : State) (item : ActiveItem) (alg : Algorithm), s.ec.engine = .run → s.dc.mode = .draining →
     s.ap.active = some item → item.cut = false → item.failure = none → s.dc.algorithm = some alg →
     let bytes := (s.ap.buffer s.ap.nextDrain).data
     let x := absorbBytes alg { residue := s.dc.residue, chaining := s.dc.chaining } bytes
     let drained := s.ap.nextDrain
     let other := s.ap.buffer drained.other
     let after (j : BufferId) : Buffer :=
       if j = drained then Buffer.cleared
       else if other.state = .full then { other with state := .draining } else other
     let wanted := 0 < item.toFetch ∧ (∀ b, s.bma.burst = some b → b.requester = .ctu) ∧ s.bma.fetchWaiting = false
     0 < item.toFetch ∨ bytes.length < item.toDrain →
     ∃ t, exec .drainEnd s = .next t ∧
       t = { s with
         ou.streams := s.ou.streams.set item.stream { s.stream item.stream with
           absorbed := (s.stream item.stream).absorbed + bytes.length
           residue := x.residue
           chaining := x.chaining }
         ap := t.ap
         dc := { s.dc with mode := t.dc.mode, residue := x.residue, chaining := x.chaining }
         bma := t.bma
         ctu.active := t.ctu.active } ∧
       t.ap.readyQueue = s.ap.readyQueue ∧
       (∃ count, t.ap.active =
         some { item with toDrain := item.toDrain - bytes.length, retryCount := count }) ∧
       t.ap.nextDrain = drained.other ∧ t.dc.mode = (if other.state = .full then .draining else .idle) ∧
       (¬ wanted →
         (∀ j, t.ap.buffer j = after j) ∧ t.ap.nextFill = s.ap.nextFill ∧ t.bma = s.bma ∧
         t.ctu.active = s.ctu.active) ∧
       (wanted → s.bma.burst ≠ none →
         (∀ j, t.ap.buffer j = after j) ∧ t.ap.nextFill = s.ap.nextFill ∧
         t.bma = { s.bma with fetchWaiting := true } ∧ t.ctu.active = s.ctu.active) ∧
       (wanted → s.bma.burst = none → s.bma.ctuWaiting = false →
         (∀ j, t.ap.buffer j = if j = s.ap.nextFill then { state := .filling, data := [] } else after j) ∧
         t.ap.nextFill = s.ap.nextFill.other ∧ t.ctu.active = s.ctu.active ∧
         t.bma = {
           burst := some { requester := .fetch, direction := .read, address := item.nextAddress,
                           length := min item.toFetch (64 - item.nextAddress.toNat % 64), data := [] }
           fetchWaiting := false
           ctuWaiting := false
           lastGranted := .fetch })) ∧
  ∀ (s : State) (item : ActiveItem), s.ec.engine = .run → s.dc.mode = .draining → s.ap.active = some item →
    item.cut = true ∨ item.failure ≠ none →
    exec .drainEnd s = .next { s with
      ap := { s.ap.setBuffer s.ap.nextDrain Buffer.cleared with
        nextDrain := s.ap.nextDrain.other, active := some { item with toDrain := 0 } }
      dc := { s.dc with
        mode := .idle
        residue := (s.stream item.stream).residue
        chaining := (s.stream item.stream).chaining } }

/-- R107, R129, R134: the end of the drain of an item's last bytes: a stream in ENDING whose absorbed count has come to
its declared end begins its finalization, the item staying active; otherwise the item ends OK. -/
def Obligations.LastDrainEndsOrFinalizes : Prop :=
  ∀ (s : State) (item : ActiveItem) (alg : Algorithm), s.ec.engine = .run → s.dc.mode = .draining →
    s.ap.active = some item → item.cut = false → item.failure = none → s.dc.algorithm = some alg →
    let c := s.stream item.stream
    let bytes := (s.ap.buffer s.ap.nextDrain).data
    let x := absorbBytes alg { residue := s.dc.residue, chaining := s.dc.chaining } bytes
    let c' : StreamContext := { c with
      absorbed := c.absorbed + bytes.length, residue := x.residue, chaining := x.chaining }
    let ap := { s.ap.setBuffer s.ap.nextDrain Buffer.cleared with nextDrain := s.ap.nextDrain.other }
    item.toFetch = 0 → item.toDrain = bytes.length →
    (c.state = .ending → c.declaredEnd = some c'.absorbed →
      exec .drainEnd s = .next { s with
        ou.streams := s.ou.streams.set item.stream c'
        ap := { ap with active := some { item with toDrain := 0 } }
        dc := { mode := .finalizing, algorithm := some alg, residue := x.residue, chaining := x.chaining } }) ∧
    (c.state ≠ .ending ∨ c.declaredEnd ≠ some c'.absorbed →
      exec .drainEnd s = .next (State.afterEndings
        { s with
          ou.streams := s.ou.streams.set item.stream { c' with inFlight := c.inFlight - 1 }
          ap := { ap with active := none }
          dc := DigestCore.atRest }
        [recordOf s item.slot .ok (some { state := c.state, handle := item.stream, generation := c.generation,
                                          absorbed := c'.absorbed })]))

/-- R132, R16, R65, R67, R134: the end of a finalization. In ENDING the digest is the final chaining state, the residue
is emptied and the chaining state zeroed, the stream is FINAL and the item ends OK_FINAL. In ABORTING nothing is stored:
the item ends ABANDONED, the stream is freed, and the ABORT that waited ends OK after it. -/
def Obligations.FinalizationEndsTheStream : Prop :=
  ∀ (s : State) (item : ActiveItem) (alg : Algorithm), s.ec.engine = .run → s.dc.mode = .finalizing →
    s.ap.active = some item → s.dc.algorithm = some alg →
    let c := s.stream item.stream
    (∀ length, c.state = .ending → c.declaredEnd = some length →
      exec .finalizationEnd s = .next (State.afterEndings
        { s with
          ou.streams := s.ou.streams.set item.stream { c with
            state := .final
            digest := some (digestOf alg
              (finalChaining alg { residue := s.dc.residue, chaining := s.dc.chaining } length))
            residue := []
            chaining := Vector.replicate 64 0
            inFlight := c.inFlight - 1 }
          ap.active := none
          dc := DigestCore.atRest }
        [recordOf s item.slot .okFinal (some { state := .final, handle := item.stream, generation := c.generation,
                                               absorbed := c.absorbed })])) ∧
    ∀ p, c.state = .aborting → c.pendingControl = some p →
      let ref : StreamRef := { state := .free, handle := item.stream, generation := c.generation,
                               absorbed := c.absorbed }
      exec .finalizationEnd s = .next (State.afterEndings
        { s with
          ou.streams := s.ou.streams.set item.stream (freeContext c.generation)
          ap.active := none
          dc := DigestCore.atRest }
        [recordOf s item.slot .abandoned (some ref), recordOf s p .ok (some ref)])

/-- R114, R61, R62, R115: a quiet item with a failure recorded and no cut mark faults its stream: the stream's Ready
Queue items end ABANDONED in queue order, then its held fragments in ascending offset, then the failing item with its
failure as status, every record showing FAULTED. -/
def Obligations.FaultReportFaultsStream : Prop :=
  ∀ (s : State) (item : ActiveItem) (status : Status) (code : FaultCode), s.ec.engine = .run →
    s.ap.active = some item →
    item.failure = some .busError ∧ status = .busError ∧ code = .busError ∨
      item.failure = some .retryLimit ∧ status = .retryLimit ∧ code = .retryLimit →
    item.cut = false → (∀ b, s.bma.burst = some b → b.requester = .ctu) →
    s.ap.bufferA.state ≠ .draining → s.ap.bufferB.state ≠ .draining →
    let c := s.stream item.stream
    let dropped := s.ap.readyQueue.filter (·.stream == item.stream)
    let ref : StreamRef := { state := .faulted, handle := item.stream, generation := c.generation,
                             absorbed := c.absorbed }
    exec .faultReport s = .next (State.afterEndings
      { s with
        ou := {
          streams := s.ou.streams.set item.stream { c with
            state := .faulted
            faultCode := some code
            holdList := []
            gapTimer := none
            inFlight := c.inFlight - 1 - dropped.length }
          heldCount := s.ou.heldCount - c.holdList.length }
        ap := { s.ap with readyQueue := s.ap.readyQueue.filter (·.stream != item.stream), active := none }
        dc := DigestCore.atRest }
      ((dropped.map (·.slot) ++ c.holdList).map (fun m => recordOf s m .abandoned (some ref)) ++
        [recordOf s item.slot status (some ref)]))

/-- R117, R114, R64, R67, R63: the end of a cut, reported by CUT_END or, for an item that had failed before it was cut,
by FAULT_REPORT: the item ends ABANDONED; with pending control the stream is freed and the waiting slot ends OK after
it, both records showing stream FREE with the absorbed count kept; without, the stream stays as it is with one item less
in flight. -/
def Obligations.CutItemEndsAbandoned : Prop :=
  ∀ (cmd : Instr) (s : State) (item : ActiveItem), s.ec.engine = .run → s.ap.active = some item → item.cut = true →
    (∀ b, s.bma.burst = some b → b.requester = .ctu) →
    cmd = .cutEnd ∧ item.failure = none ∧ s.bma.fetchWaiting = false ∧ s.ap.bufferA.state = .empty ∧
        s.ap.bufferB.state = .empty ∨
      cmd = .faultReport ∧ item.failure ≠ none ∧ s.ap.bufferA.state ≠ .draining ∧ s.ap.bufferB.state ≠ .draining →
    let c := s.stream item.stream
    (∀ p, c.pendingControl = some p →
      let ref : StreamRef := { state := .free, handle := item.stream, generation := c.generation,
                               absorbed := c.absorbed }
      exec cmd s = .next (State.afterEndings
        { s with
          ou.streams := s.ou.streams.set item.stream (freeContext c.generation)
          ap.active := none
          dc := DigestCore.atRest }
        [recordOf s item.slot .abandoned (some ref), recordOf s p .ok (some ref)])) ∧
    (c.pendingControl = none →
      exec cmd s = .next (State.afterEndings
        { s with
          ou.streams := s.ou.streams.set item.stream { c with inFlight := c.inFlight - 1 }
          ap.active := none
          dc := DigestCore.atRest }
        [recordOf s item.slot .abandoned
          (some { state := c.state, handle := item.stream, generation := c.generation, absorbed := c.absorbed })]))

/-! ### Digests (spec 06) -/

/-- R130, R131: the padding of a message of L bytes: 0x80, the least number of zero bytes that leaves room for the
length field at the end of a block, and 8 L in F bytes, most significant first. -/
def Obligations.PaddingFillsTheLastBlock : Prop :=
  ∀ (alg : Algorithm) (length : Nat), length ≤ 2 ^ 48 →
    let r := length % alg.blockSize
    let z := zeroBytes alg r
    ∃ field, padding alg length = 0x80#8 :: List.replicate z 0 ++ field ∧
      field.length = alg.lengthField ∧ bigEndian field = 8 * length ∧
      (r + 1 + z) % alg.blockSize = alg.blockSize - alg.lengthField ∧
      (∀ y, (r + 1 + y) % alg.blockSize = alg.blockSize - alg.lengthField → z ≤ y) ∧
      (alg = .d256 → z = if r ≤ 55 then 55 - r else 119 - r) ∧
      (alg = .d512 → z = if r ≤ 111 then 111 - r else 239 - r) ∧
      r + (padding alg length).length =
        if r < alg.blockSize - alg.lengthField then alg.blockSize else 2 * alg.blockSize

/-- R126, R128, R8: bytes absorbed in pieces, from an empty residue, leave the chaining state that every whole block of
them gives in order, and the bytes after the last whole block as the residue. R123, R132, R136: the digest that the
finalization stores, after the message's bytes were absorbed in pieces from the initial value, is the block function
applied to every block of the padded message. The block function is not in the spec (log entry 4). -/
def Obligations.DigestIsThatOfPaddedMessage : Prop :=
  (∀ (alg : Algorithm) (chaining : Vector Byte 64) (pieces : List (List Byte)),
     let x := pieces.foldl (absorbBytes alg) { residue := [], chaining := chaining }
     x.chaining = compressAll alg chaining pieces.flatten ∧
     x.residue = pieces.flatten.drop (alg.blockSize * (pieces.flatten.length / alg.blockSize)) ∧
     x.residue.length = pieces.flatten.length % alg.blockSize) ∧
  ∀ (alg : Algorithm) (pieces : List (List Byte)),
    digestOf alg (finalChaining alg
      (pieces.foldl (absorbBytes alg) { residue := [], chaining := initialChaining alg }) pieces.flatten.length) =
    messageDigest alg pieces.flatten

/-! ### Export and import (spec 07, R198, R199) -/

/-- R143, R144, R146, R150, R109: the start of the transfer at the head of the queue: its slot is ACTIVE, an EXPORT's
record is built from the context, and the first burst is granted when the bus master is idle with no request waiting, or
waits when a burst is on the bus. -/
def Obligations.TransferStartBuildsRecord : Prop :=
  ∀ s : State,
    (s.ec.engine ≠ .run ∨ s.ctu.active ≠ none ∨ s.ctu.queue = [] → exec .transferStart s = .next s) ∧
    ∀ (n : SlotId) (h : Handle) (kind : TransferKind) (rest : List Transfer),
      s.ec.engine = .run → s.ctu.active = none →
      s.ctu.queue = { slot := n, stream := h, kind := kind } :: rest →
      let record := if kind = .exporting then contextRecord (s.stream h) else s.ctu.record
      let started : State := { s with
        rss.states := s.rss.states.set n .active
        ctu := { queue := rest, record := record,
                 active := some { transfer := { slot := n, stream := h, kind := kind }, burst := 1,
                                  retryCount := 0 } } }
      (s.bma.burst = none → s.bma.fetchWaiting = false →
        exec .transferStart s = .next { started with bma := { s.bma with
          burst := some {
            requester := .ctu
            direction := if kind = .exporting then .write else .read
            address := s.hostAddress n
            length := 64
            data := if kind = .exporting then record.toList.take 64 else [] }
          ctuWaiting := false
          lastGranted := .ctu } }) ∧
      (s.bma.burst ≠ none → exec .transferStart s = .next { started with bma.ctuWaiting := true })

/-- R147, R146, R150, R109: an OK answer to burst 1 to 3 of a transfer: an IMPORT's 64 bytes land in their place in the
record buffer, and the next burst, 64 host addresses on, is granted at once when no request waits; when the Fetch Engine's
request waits, that is granted, and the CTU waits (that all this falls in the happening of the answer is DEDUCED, log
entry 11). -/
def Obligations.TransferAdvancesBurstByBurst : Prop :=
  ∀ (s : State) (b : Burst) (a : ActiveTransfer) (lanes : Vector Byte 64), s.ec.engine = .run →
    s.bma.burst = some b → b.requester = .ctu → s.ctu.active = some a → 1 ≤ a.burst → a.burst < 4 →
    s.bma.ctuWaiting = false →
    ∃ t, exec (.burstOk lanes) s = .next t ∧
      let advanced : State := { s with ctu := { s.ctu with
        active := some { a with burst := a.burst + 1, retryCount := 0 }
        record := t.ctu.record } }
      (s.bma.fetchWaiting = false →
        t = { advanced with bma := { s.bma with burst := t.bma.burst, lastGranted := .ctu } }) ∧
      (∀ item, s.bma.fetchWaiting = true → s.ap.active = some item →
        t = { advanced.fetchGranted item with bma := { (advanced.fetchGranted item).bma with ctuWaiting := true } }) ∧
      (a.transfer.kind = .exporting →
        t.ctu.record = s.ctu.record ∧
        (s.bma.fetchWaiting = false → t.bma.burst = some {
          requester := .ctu, direction := .write, length := 64
          address := s.hostAddress a.transfer.slot + BitVec.ofNat 32 (64 * a.burst)
          data := (s.ctu.record.toList.drop (64 * a.burst)).take 64 })) ∧
      (a.transfer.kind = .importing →
        (∀ j : Fin 256, t.ctu.record[j] =
          if 64 * (a.burst - 1) ≤ j.val ∧ j.val < 64 * a.burst then
            lanes.toList.getD (j.val - 64 * (a.burst - 1)) 0
          else s.ctu.record[j]) ∧
        (s.bma.fetchWaiting = false → t.bma.burst = some {
          requester := .ctu, direction := .read, length := 64
          address := s.hostAddress a.transfer.slot + BitVec.ofNat 32 (64 * a.burst), data := [] }))

/-- R148, R151, R152, R22: an OK answer to the fourth burst ends the transfer. An EXPORT frees its stream and ends OK. An
IMPORT whose record is not valid frees its handle and ends BAD_CONTEXT with an absorbed count of 0; a valid one writes
the context and ends OK, or at its declared end enters the Ready Queue as a finalize-only item. R109: the bus master is
freed, for the Fetch Engine's request when it waits. What a valid record is, and the context it makes, stand in
ContextRecordRoundTrips. -/
def Obligations.FourthBurstEndsTheTransfer : Prop :=
  ∀ (s : State) (b : Burst) (a : ActiveTransfer) (lanes : Vector Byte 64), s.ec.engine = .run →
    s.bma.burst = some b → b.requester = .ctu → s.ctu.active = some a → a.burst = 4 →
    s.bma.ctuWaiting = false →
    let n := a.transfer.slot
    let h := a.transfer.stream
    let c := s.stream h
    let record := landBurst s.ctu.record 4 lanes
    let imported := importedContext record c.generation
    (a.transfer.kind = .exporting →
      exec (.burstOk lanes) s = .next (State.afterEndings
        (State.busFreed { s with
          ou.streams := s.ou.streams.set h (freeContext c.generation), ctu.active := none })
        [recordOf s n .ok
          (some { state := .free, handle := h, generation := c.generation, absorbed := c.absorbed })])) ∧
    (a.transfer.kind = .importing → recordValid record = false →
      exec (.burstOk lanes) s = .next (State.afterEndings
        (State.busFreed { s with
          ou.streams := s.ou.streams.set h (freeContext c.generation)
          ctu := { s.ctu with active := none, record := record } })
        [recordOf s n .badContext
          (some { state := .free, handle := h, generation := c.generation, absorbed := 0 })])) ∧
    (a.transfer.kind = .importing → recordValid record = true →
      (imported.declaredEnd ≠ some imported.absorbed →
        exec (.burstOk lanes) s = .next (State.afterEndings
          (State.busFreed { s with
            ou.streams := s.ou.streams.set h imported
            ctu := { s.ctu with active := none, record := record } })
          [recordOf s n .ok
            (some { state := .opened, handle := h, generation := c.generation, absorbed := imported.absorbed })])) ∧
      (imported.declaredEnd = some imported.absorbed →
        exec (.burstOk lanes) s = .next (State.busFreed { s with
          rss.states := s.rss.states.set n .ready
          ou.streams := s.ou.streams.set h imported
          ap.readyQueue := s.ap.readyQueue ++ [{ slot := n, stream := h, kind := .finalizeOnly }]
          ctu := { s.ctu with active := none, record := record } })))

/-- R147, R149, R150: ERROR, or the sixteenth consecutive RETRY, to a CTU burst ends its transfer: an EXPORT's stream is
OPEN again as it was, an IMPORT's handle is freed with its generation kept, and the slot ends BUS_ERROR or
RETRY_LIMIT. R109: the bus master is freed, for the Fetch Engine's request when it waits. -/
def Obligations.TransferFailureEndsTheTransfer : Prop :=
  ∀ (cmd : Instr) (status : Status) (s : State) (b : Burst) (a : ActiveTransfer),
    s.ec.engine = .run → s.bma.burst = some b → b.requester = .ctu → s.ctu.active = some a →
    s.bma.ctuWaiting = false →
    cmd = .burstError ∧ status = .busError ∨
      (cmd = .retryLimit ∨ cmd = .burstRetry) ∧ status = .retryLimit ∧ a.retryCount = 15 →
    let n := a.transfer.slot
    let h := a.transfer.stream
    let c := s.stream h
    (a.transfer.kind = .exporting →
      exec cmd s = .next (State.afterEndings
        (State.busFreed { s with
          ou.streams := s.ou.streams.set h { c with state := .opened }, ctu.active := none })
        [recordOf s n status
          (some { state := .opened, handle := h, generation := c.generation, absorbed := c.absorbed })])) ∧
    (a.transfer.kind = .importing →
      exec cmd s = .next (State.afterEndings
        (State.busFreed { s with
          ou.streams := s.ou.streams.set h (freeContext c.generation), ctu.active := none })
        [recordOf s n status
          (some { state := .free, handle := h, generation := c.generation, absorbed := 0 })]))

/-- R151, R152, R144, R198: the record that an EXPORT builds of a context that keeps to R2, R7, R8 and R122 is valid,
and importing it gives every field back, under the new handle's generation; it is ENDING exactly when the declared
end is reached. R145, R199: the check word is the complement of the XOR of words w0 to w62: a change of any one
word, in any bit, changes it, and the record of all zeros fails it. R151, R198: for every 256 bytes, the conditions on
them, word by word, under which they are a valid record; R152: the context that they make, field by field. The generation
at export stands in bits 23:16 of w2. -/
def Obligations.ContextRecordRoundTrips : Prop :=
  (∀ (c : StreamContext) (alg : Algorithm) (generation : BitVec 8),
     c.algorithm = some alg → c.holdLimit ≤ 16 → c.residue.length < alg.blockSize →
     c.absorbed % alg.blockSize = c.residue.length → c.absorbed ≤ 2 ^ 48 →
     (∀ e, c.declaredEnd = some e → c.absorbed ≤ e ∧ e ≤ 2 ^ 48) →
     (alg = .d256 → ∀ k : Fin 64, 32 ≤ k.val → c.chaining[k] = 0) →
     recordValid (contextRecord c) = true ∧
     importedContext (contextRecord c) generation =
       { freeContext generation with
         state := if c.declaredEnd = some c.absorbed then .ending else .opened
         algorithm := some alg
         holdLimit := c.holdLimit
         gapTimeout := c.gapTimeout
         declaredEnd := c.declaredEnd
         frontier := c.absorbed
         absorbed := c.absorbed
         residue := c.residue
         chaining := c.chaining
         inFlight := if c.declaredEnd = some c.absorbed then 1 else 0 }) ∧
  (∀ (w v : Nat → Word) (k : Nat), k < 63 → v k ≠ w k → (∀ j, j < 63 → j ≠ k → v j = w j) →
    checkWord v ≠ checkWord w) ∧
  checkWord (fun _ => 0) = 0xFFFFFFFF ∧ recordValid (Vector.replicate 256 0) = false ∧
  (∀ c : StreamContext, (contextRecord c)[10] = c.generation) ∧
  ∀ r : Vector Byte 256,
    let byte (i : Nat) : Byte := r.toList.getD i 0
    let w (k : Nat) : Word := byte (4 * k + 3) ++ byte (4 * k + 2) ++ byte (4 * k + 1) ++ byte (4 * k)
    let algorithm := (w 1).extractLsb' 0 8
    let holdLimit := ((w 1).extractLsb' 8 8).toNat
    let residue := ((w 1).extractLsb' 16 8).toNat
    let endPresent := (w 1).getLsbD 24
    let absorbed := (w 3).toNat + 2 ^ 32 * (w 4).toNat
    let declaredEnd := (w 5).toNat + 2 ^ 32 * (w 6).toNat
    (recordValid r = true ↔
      w 0 = 0x57430001 ∧
      (algorithm = 1 ∧ residue ≤ 63 ∧ absorbed % 64 = residue ∧ (∀ k, 32 ≤ k → k ≤ 63 → byte (32 + k) = 0) ∨
        algorithm = 2 ∧ residue ≤ 127 ∧ absorbed % 128 = residue) ∧
      holdLimit ≤ 16 ∧ absorbed ≤ 2 ^ 48 ∧ (w 1).extractLsb' 25 7 = 0 ∧
      (endPresent = true → absorbed ≤ declaredEnd ∧ declaredEnd ≤ 2 ^ 48) ∧
      (endPresent = false → w 5 = 0 ∧ w 6 = 0) ∧
      w 7 = 0 ∧ (∀ k, 56 ≤ k → k ≤ 62 → w k = 0) ∧ (w 2).extractLsb' 24 8 = 0 ∧
      (∀ i, residue ≤ i → i ≤ 127 → byte (96 + i) = 0) ∧
      w 63 = ~~~ ((List.range 63).foldl (fun x k => x ^^^ w k) 0)) ∧
    ∀ generation : BitVec 8,
      let c := importedContext r generation
      c = { freeContext generation with
        state := if endPresent = true ∧ declaredEnd = absorbed then .ending else .opened
        algorithm := if algorithm = 1 then some .d256 else if algorithm = 2 then some .d512 else none
        holdLimit := holdLimit
        gapTimeout := (w 2).extractLsb' 0 16
        declaredEnd := if endPresent = true then some declaredEnd else none
        frontier := absorbed
        absorbed := absorbed
        residue := c.residue
        chaining := c.chaining
        inFlight := if endPresent = true ∧ declaredEnd = absorbed then 1 else 0 } ∧
      c.residue.length = residue ∧ (∀ i, i < residue → c.residue.getD i 0 = byte (96 + i)) ∧
      ∀ k : Fin 64, c.chaining[k] = byte (32 + k.val)

/-! ### What every step keeps -/

/-- R79, R187: outside CLEARING no slot is in two places, or twice in one, and each slot's state says the place it is
in; in CLEARING the blocks already swept are clean. Every step keeps it, from every state that has it. -/
def Obligations.SlotsStayAccounted : Prop :=
  ∀ s t : State, s.slotsAccounted → step s = .next t → t.slotsAccounted

/-- R158, R162, R168, R169: every step keeps the Completion Unit within its bounds. -/
def Obligations.CompletionUnitStaysBounded : Prop :=
  ∀ s t : State, s.cu.bounded → step s = .next t → t.cu.bounded

/-- R184, R185, R187, R108, R102, R47: every step keeps the engine state and the RESET pin in agreement, every burst
within 64 bytes and a Fetch Engine burst within one aligned block, and the device held count at most 40. -/
def Obligations.EngineAndBusStayConsistent : Prop :=
  ∀ s t : State,
    (s.ec.consistent ∧ (∀ b, s.bma.burst = some b → b.withinBlock) ∧ s.ou.heldCount ≤ 40) → step s = .next t →
    t.ec.consistent ∧ (∀ b, t.bma.burst = some b → b.withinBlock) ∧ t.ou.heldCount ≤ 40

/-- R163, R93: outside a pop, a sweep and RESET, the records outstanding are only added to, at the end: none is lost,
changed or moved before another. -/
def Obligations.RecordsEnterInOrder : Prop :=
  ∀ (c : Instr) (s t : State), exec c s = .next t → (∀ value, c ≠ .cqPop value) → c ≠ .sweepCu → c ≠ .resetAssert →
    ∃ rs, t.records = s.records ++ rs

/-- The state after RESET meets what every step keeps. -/
def Obligations.ResetMeetsTheInvariants : Prop :=
  State.reset.slotsAccounted ∧ State.reset.cu.bounded ∧ State.reset.holdsOrdered ∧ State.reset.ec.consistent ∧
  (∀ b, State.reset.bma.burst = some b → b.withinBlock) ∧ State.reset.ou.heldCount ≤ 40
end

