-- ==== Sys2Proof/Laws/State.lean ====
section
/-! SUPPORT. What each update of the state leaves as it was, one lemma per block or field, true by definition; and what
a slot and a stream read as after an update. -/

namespace Sys2Proof.Machine

/-! ### The conditions of a happening -/

@[simp] theorem windowOpen_iff (s : State) : s.windowOpen ↔ s.ec.resetPin = false := Iff.rfl
@[simp] theorem running_iff (s : State) : s.running ↔ s.ec.engine = .run := Iff.rfl
@[simp] theorem sweeping_iff (s : State) : s.sweeping ↔ s.ec.engine = .clearing ∧ s.bma.burst = none := Iff.rfl
@[simp] theorem ticking_iff (s : State) : s.ticking ↔ s.ec.engine = .run ∧ s.ec.prescaler ≠ 0 := Iff.rfl
@[simp] theorem gapTicking_iff (s : State) :
    s.gapTicking ↔ (s.ec.engine = .run ∧ s.ec.prescaler ≠ 0) ∧ s.ec.dispatchEnable = true := Iff.rfl

/-! ### Slots and streams -/

@[simp] theorem setSlot_ec (s : State) (n : SlotId) (st : SlotState) : (s.setSlot n st).ec = s.ec := rfl
@[simp] theorem setSlot_hbi (s : State) (n : SlotId) (st : SlotState) : (s.setSlot n st).hbi = s.hbi := rfl
@[simp] theorem setSlot_ou (s : State) (n : SlotId) (st : SlotState) : (s.setSlot n st).ou = s.ou := rfl
@[simp] theorem setSlot_ap (s : State) (n : SlotId) (st : SlotState) : (s.setSlot n st).ap = s.ap := rfl
@[simp] theorem setSlot_dc (s : State) (n : SlotId) (st : SlotState) : (s.setSlot n st).dc = s.dc := rfl
@[simp] theorem setSlot_ctu (s : State) (n : SlotId) (st : SlotState) : (s.setSlot n st).ctu = s.ctu := rfl
@[simp] theorem setSlot_bma (s : State) (n : SlotId) (st : SlotState) : (s.setSlot n st).bma = s.bma := rfl
@[simp] theorem setSlot_cu (s : State) (n : SlotId) (st : SlotState) : (s.setSlot n st).cu = s.cu := rfl
@[simp] theorem setSlot_pending (s : State) (n : SlotId) (st : SlotState) : (s.setSlot n st).pending = s.pending := rfl
@[simp] theorem setSlot_rss_words (s : State) (n : SlotId) (st : SlotState) : (s.setSlot n st).rss.words = s.rss.words := rfl
@[simp] theorem setSlot_rss_freeQueue (s : State) (n : SlotId) (st : SlotState) : (s.setSlot n st).rss.freeQueue = s.rss.freeQueue := rfl
@[simp] theorem setSlot_rss_postQueue (s : State) (n : SlotId) (st : SlotState) : (s.setSlot n st).rss.postQueue = s.rss.postQueue := rfl
@[simp] theorem setStream_ec (s : State) (h : Handle) (c : StreamContext) : (s.setStream h c).ec = s.ec := rfl
@[simp] theorem setStream_hbi (s : State) (h : Handle) (c : StreamContext) : (s.setStream h c).hbi = s.hbi := rfl
@[simp] theorem setStream_rss (s : State) (h : Handle) (c : StreamContext) : (s.setStream h c).rss = s.rss := rfl
@[simp] theorem setStream_ap (s : State) (h : Handle) (c : StreamContext) : (s.setStream h c).ap = s.ap := rfl
@[simp] theorem setStream_dc (s : State) (h : Handle) (c : StreamContext) : (s.setStream h c).dc = s.dc := rfl
@[simp] theorem setStream_ctu (s : State) (h : Handle) (c : StreamContext) : (s.setStream h c).ctu = s.ctu := rfl
@[simp] theorem setStream_bma (s : State) (h : Handle) (c : StreamContext) : (s.setStream h c).bma = s.bma := rfl
@[simp] theorem setStream_cu (s : State) (h : Handle) (c : StreamContext) : (s.setStream h c).cu = s.cu := rfl
@[simp] theorem setStream_pending (s : State) (h : Handle) (c : StreamContext) : (s.setStream h c).pending = s.pending := rfl
@[simp] theorem setStream_ou_heldCount (s : State) (h : Handle) (c : StreamContext) : (s.setStream h c).ou.heldCount = s.ou.heldCount := rfl
@[simp] theorem updateStream_ec (s : State) (h : Handle) (f : StreamContext → StreamContext) : (s.updateStream h f).ec = s.ec := rfl
@[simp] theorem updateStream_hbi (s : State) (h : Handle) (f : StreamContext → StreamContext) : (s.updateStream h f).hbi = s.hbi := rfl
@[simp] theorem updateStream_rss (s : State) (h : Handle) (f : StreamContext → StreamContext) : (s.updateStream h f).rss = s.rss := rfl
@[simp] theorem updateStream_ap (s : State) (h : Handle) (f : StreamContext → StreamContext) : (s.updateStream h f).ap = s.ap := rfl
@[simp] theorem updateStream_dc (s : State) (h : Handle) (f : StreamContext → StreamContext) : (s.updateStream h f).dc = s.dc := rfl
@[simp] theorem updateStream_ctu (s : State) (h : Handle) (f : StreamContext → StreamContext) : (s.updateStream h f).ctu = s.ctu := rfl
@[simp] theorem updateStream_bma (s : State) (h : Handle) (f : StreamContext → StreamContext) : (s.updateStream h f).bma = s.bma := rfl
@[simp] theorem updateStream_cu (s : State) (h : Handle) (f : StreamContext → StreamContext) : (s.updateStream h f).cu = s.cu := rfl
@[simp] theorem updateStream_pending (s : State) (h : Handle) (f : StreamContext → StreamContext) : (s.updateStream h f).pending = s.pending := rfl
@[simp] theorem updateStream_ou_heldCount (s : State) (h : Handle) (f : StreamContext → StreamContext) : (s.updateStream h f).ou.heldCount = s.ou.heldCount := rfl
@[simp] theorem freeStream_ec (s : State) (h : Handle) : (freeStream h s).ec = s.ec := rfl
@[simp] theorem freeStream_hbi (s : State) (h : Handle) : (freeStream h s).hbi = s.hbi := rfl
@[simp] theorem freeStream_rss (s : State) (h : Handle) : (freeStream h s).rss = s.rss := rfl
@[simp] theorem freeStream_ap (s : State) (h : Handle) : (freeStream h s).ap = s.ap := rfl
@[simp] theorem freeStream_dc (s : State) (h : Handle) : (freeStream h s).dc = s.dc := rfl
@[simp] theorem freeStream_ctu (s : State) (h : Handle) : (freeStream h s).ctu = s.ctu := rfl
@[simp] theorem freeStream_bma (s : State) (h : Handle) : (freeStream h s).bma = s.bma := rfl
@[simp] theorem freeStream_cu (s : State) (h : Handle) : (freeStream h s).cu = s.cu := rfl
@[simp] theorem freeStream_pending (s : State) (h : Handle) : (freeStream h s).pending = s.pending := rfl
@[simp] theorem freeStream_ou_heldCount (s : State) (h : Handle) : (freeStream h s).ou.heldCount = s.ou.heldCount := rfl
@[simp] theorem returnToFreeQueue_ec (s : State) (n : SlotId) : (returnToFreeQueue n s).ec = s.ec := rfl
@[simp] theorem returnToFreeQueue_hbi (s : State) (n : SlotId) : (returnToFreeQueue n s).hbi = s.hbi := rfl
@[simp] theorem returnToFreeQueue_ou (s : State) (n : SlotId) : (returnToFreeQueue n s).ou = s.ou := rfl
@[simp] theorem returnToFreeQueue_ap (s : State) (n : SlotId) : (returnToFreeQueue n s).ap = s.ap := rfl
@[simp] theorem returnToFreeQueue_dc (s : State) (n : SlotId) : (returnToFreeQueue n s).dc = s.dc := rfl
@[simp] theorem returnToFreeQueue_ctu (s : State) (n : SlotId) : (returnToFreeQueue n s).ctu = s.ctu := rfl
@[simp] theorem returnToFreeQueue_bma (s : State) (n : SlotId) : (returnToFreeQueue n s).bma = s.bma := rfl
@[simp] theorem returnToFreeQueue_cu (s : State) (n : SlotId) : (returnToFreeQueue n s).cu = s.cu := rfl
@[simp] theorem returnToFreeQueue_pending (s : State) (n : SlotId) : (returnToFreeQueue n s).pending = s.pending := rfl
@[simp] theorem returnToFreeQueue_rss_words (s : State) (n : SlotId) : (returnToFreeQueue n s).rss.words = s.rss.words := rfl
@[simp] theorem returnToFreeQueue_rss_postQueue (s : State) (n : SlotId) : (returnToFreeQueue n s).rss.postQueue = s.rss.postQueue := rfl
@[simp] theorem joinPostQueue_ec (s : State) (n : SlotId) : (joinPostQueue n s).ec = s.ec := rfl
@[simp] theorem joinPostQueue_hbi (s : State) (n : SlotId) : (joinPostQueue n s).hbi = s.hbi := rfl
@[simp] theorem joinPostQueue_ou (s : State) (n : SlotId) : (joinPostQueue n s).ou = s.ou := rfl
@[simp] theorem joinPostQueue_ap (s : State) (n : SlotId) : (joinPostQueue n s).ap = s.ap := rfl
@[simp] theorem joinPostQueue_dc (s : State) (n : SlotId) : (joinPostQueue n s).dc = s.dc := rfl
@[simp] theorem joinPostQueue_ctu (s : State) (n : SlotId) : (joinPostQueue n s).ctu = s.ctu := rfl
@[simp] theorem joinPostQueue_bma (s : State) (n : SlotId) : (joinPostQueue n s).bma = s.bma := rfl
@[simp] theorem joinPostQueue_cu (s : State) (n : SlotId) : (joinPostQueue n s).cu = s.cu := rfl
@[simp] theorem joinPostQueue_pending (s : State) (n : SlotId) : (joinPostQueue n s).pending = s.pending := rfl
@[simp] theorem joinPostQueue_rss_words (s : State) (n : SlotId) : (joinPostQueue n s).rss.words = s.rss.words := rfl
@[simp] theorem joinPostQueue_rss_freeQueue (s : State) (n : SlotId) : (joinPostQueue n s).rss.freeQueue = s.rss.freeQueue := rfl

/-! ### The Completion Unit and the capture -/

@[simp] theorem raiseCq_ec (s : State) : (raiseCq s).ec = s.ec := rfl
@[simp] theorem raiseCq_hbi (s : State) : (raiseCq s).hbi = s.hbi := rfl
@[simp] theorem raiseCq_rss (s : State) : (raiseCq s).rss = s.rss := rfl
@[simp] theorem raiseCq_ou (s : State) : (raiseCq s).ou = s.ou := rfl
@[simp] theorem raiseCq_ap (s : State) : (raiseCq s).ap = s.ap := rfl
@[simp] theorem raiseCq_dc (s : State) : (raiseCq s).dc = s.dc := rfl
@[simp] theorem raiseCq_ctu (s : State) : (raiseCq s).ctu = s.ctu := rfl
@[simp] theorem raiseCq_bma (s : State) : (raiseCq s).bma = s.bma := rfl
@[simp] theorem raiseCq_pending (s : State) : (raiseCq s).pending = s.pending := rfl
@[simp] theorem raiseCq_cu_queue (s : State) : (raiseCq s).cu.queue = s.cu.queue := rfl
@[simp] theorem raiseCq_cu_backlog (s : State) : (raiseCq s).cu.backlog = s.cu.backlog := rfl
@[simp] theorem raiseCq_cu_threshold (s : State) : (raiseCq s).cu.threshold = s.cu.threshold := rfl
@[simp] theorem raiseCq_cu_holdTime (s : State) : (raiseCq s).cu.holdTime = s.cu.holdTime := rfl
@[simp] theorem startCoalescing_ec (s : State) : (startCoalescing s).ec = s.ec := rfl
@[simp] theorem startCoalescing_hbi (s : State) : (startCoalescing s).hbi = s.hbi := rfl
@[simp] theorem startCoalescing_rss (s : State) : (startCoalescing s).rss = s.rss := rfl
@[simp] theorem startCoalescing_ou (s : State) : (startCoalescing s).ou = s.ou := rfl
@[simp] theorem startCoalescing_ap (s : State) : (startCoalescing s).ap = s.ap := rfl
@[simp] theorem startCoalescing_dc (s : State) : (startCoalescing s).dc = s.dc := rfl
@[simp] theorem startCoalescing_ctu (s : State) : (startCoalescing s).ctu = s.ctu := rfl
@[simp] theorem startCoalescing_bma (s : State) : (startCoalescing s).bma = s.bma := rfl
@[simp] theorem startCoalescing_pending (s : State) : (startCoalescing s).pending = s.pending := rfl
@[simp] theorem startCoalescing_cu_queue (s : State) : (startCoalescing s).cu.queue = s.cu.queue := rfl
@[simp] theorem startCoalescing_cu_backlog (s : State) : (startCoalescing s).cu.backlog = s.cu.backlog := rfl
@[simp] theorem startCoalescing_cu_threshold (s : State) : (startCoalescing s).cu.threshold = s.cu.threshold := rfl
@[simp] theorem startCoalescing_cu_holdTime (s : State) : (startCoalescing s).cu.holdTime = s.cu.holdTime := rfl
@[simp] theorem startCoalescing_cu_cqCause (s : State) : (startCoalescing s).cu.cqCause = s.cu.cqCause := rfl

/-! ### The Absorb Path, the arbiter and the CTU -/

@[simp] theorem grantFetch_ec (s : State) (item : ActiveItem) : (grantFetch item s).ec = s.ec := rfl
@[simp] theorem grantFetch_hbi (s : State) (item : ActiveItem) : (grantFetch item s).hbi = s.hbi := rfl
@[simp] theorem grantFetch_rss (s : State) (item : ActiveItem) : (grantFetch item s).rss = s.rss := rfl
@[simp] theorem grantFetch_ou (s : State) (item : ActiveItem) : (grantFetch item s).ou = s.ou := rfl
@[simp] theorem grantFetch_dc (s : State) (item : ActiveItem) : (grantFetch item s).dc = s.dc := rfl
@[simp] theorem grantFetch_ctu (s : State) (item : ActiveItem) : (grantFetch item s).ctu = s.ctu := rfl
@[simp] theorem grantFetch_cu (s : State) (item : ActiveItem) : (grantFetch item s).cu = s.cu := rfl
@[simp] theorem grantFetch_pending (s : State) (item : ActiveItem) : (grantFetch item s).pending = s.pending := rfl
@[simp] theorem grantFetch_bma_ctuWaiting (s : State) (item : ActiveItem) : (grantFetch item s).bma.ctuWaiting = s.bma.ctuWaiting := rfl
@[simp] theorem grantCtu_ec (s : State) (t : ActiveTransfer) : (grantCtu t s).ec = s.ec := rfl
@[simp] theorem grantCtu_hbi (s : State) (t : ActiveTransfer) : (grantCtu t s).hbi = s.hbi := rfl
@[simp] theorem grantCtu_rss (s : State) (t : ActiveTransfer) : (grantCtu t s).rss = s.rss := rfl
@[simp] theorem grantCtu_ou (s : State) (t : ActiveTransfer) : (grantCtu t s).ou = s.ou := rfl
@[simp] theorem grantCtu_ap (s : State) (t : ActiveTransfer) : (grantCtu t s).ap = s.ap := rfl
@[simp] theorem grantCtu_dc (s : State) (t : ActiveTransfer) : (grantCtu t s).dc = s.dc := rfl
@[simp] theorem grantCtu_cu (s : State) (t : ActiveTransfer) : (grantCtu t s).cu = s.cu := rfl
@[simp] theorem grantCtu_pending (s : State) (t : ActiveTransfer) : (grantCtu t s).pending = s.pending := rfl
@[simp] theorem grantCtu_ctu_queue (s : State) (t : ActiveTransfer) : (grantCtu t s).ctu.queue = s.ctu.queue := rfl
@[simp] theorem grantCtu_ctu_record (s : State) (t : ActiveTransfer) : (grantCtu t s).ctu.record = s.ctu.record := rfl
@[simp] theorem grantCtu_bma_fetchWaiting (s : State) (t : ActiveTransfer) : (grantCtu t s).bma.fetchWaiting = s.bma.fetchWaiting := rfl
@[simp] theorem dropActive_ec (s : State) (h : Handle) : (dropActive h s).ec = s.ec := rfl
@[simp] theorem dropActive_hbi (s : State) (h : Handle) : (dropActive h s).hbi = s.hbi := rfl
@[simp] theorem dropActive_rss (s : State) (h : Handle) : (dropActive h s).rss = s.rss := rfl
@[simp] theorem dropActive_ctu (s : State) (h : Handle) : (dropActive h s).ctu = s.ctu := rfl
@[simp] theorem dropActive_bma (s : State) (h : Handle) : (dropActive h s).bma = s.bma := rfl
@[simp] theorem dropActive_cu (s : State) (h : Handle) : (dropActive h s).cu = s.cu := rfl
@[simp] theorem dropActive_pending (s : State) (h : Handle) : (dropActive h s).pending = s.pending := rfl
@[simp] theorem dropActive_ou_heldCount (s : State) (h : Handle) : (dropActive h s).ou.heldCount = s.ou.heldCount := rfl
@[simp] theorem dropActive_ap_readyQueue (s : State) (h : Handle) : (dropActive h s).ap.readyQueue = s.ap.readyQueue := rfl
@[simp] theorem dropActive_ap_bufferA (s : State) (h : Handle) : (dropActive h s).ap.bufferA = s.ap.bufferA := rfl
@[simp] theorem dropActive_ap_bufferB (s : State) (h : Handle) : (dropActive h s).ap.bufferB = s.ap.bufferB := rfl
@[simp] theorem removeWork_ec (s : State) (h : Handle) : (removeWork h s).ec = s.ec := rfl
@[simp] theorem removeWork_hbi (s : State) (h : Handle) : (removeWork h s).hbi = s.hbi := rfl
@[simp] theorem removeWork_rss (s : State) (h : Handle) : (removeWork h s).rss = s.rss := rfl
@[simp] theorem removeWork_dc (s : State) (h : Handle) : (removeWork h s).dc = s.dc := rfl
@[simp] theorem removeWork_ctu (s : State) (h : Handle) : (removeWork h s).ctu = s.ctu := rfl
@[simp] theorem removeWork_bma (s : State) (h : Handle) : (removeWork h s).bma = s.bma := rfl
@[simp] theorem removeWork_cu (s : State) (h : Handle) : (removeWork h s).cu = s.cu := rfl
@[simp] theorem removeWork_pending (s : State) (h : Handle) : (removeWork h s).pending = s.pending := rfl
@[simp] theorem removeWork_ap_active (s : State) (h : Handle) : (removeWork h s).ap.active = s.ap.active := rfl
@[simp] theorem removeWork_ap_bufferA (s : State) (h : Handle) : (removeWork h s).ap.bufferA = s.ap.bufferA := rfl
@[simp] theorem removeWork_ap_bufferB (s : State) (h : Handle) : (removeWork h s).ap.bufferB = s.ap.bufferB := rfl
@[simp] theorem removeWork_ap_nextFill (s : State) (h : Handle) : (removeWork h s).ap.nextFill = s.ap.nextFill := rfl
@[simp] theorem removeWork_ap_nextDrain (s : State) (h : Handle) : (removeWork h s).ap.nextDrain = s.ap.nextDrain := rfl
@[simp] theorem joinReadyQueue_ec (s : State) (n : SlotId) (h : Handle) (k : ItemKind) : (joinReadyQueue n h k s).ec = s.ec := rfl
@[simp] theorem joinReadyQueue_hbi (s : State) (n : SlotId) (h : Handle) (k : ItemKind) : (joinReadyQueue n h k s).hbi = s.hbi := rfl
@[simp] theorem joinReadyQueue_ou (s : State) (n : SlotId) (h : Handle) (k : ItemKind) : (joinReadyQueue n h k s).ou = s.ou := rfl
@[simp] theorem joinReadyQueue_dc (s : State) (n : SlotId) (h : Handle) (k : ItemKind) : (joinReadyQueue n h k s).dc = s.dc := rfl
@[simp] theorem joinReadyQueue_ctu (s : State) (n : SlotId) (h : Handle) (k : ItemKind) : (joinReadyQueue n h k s).ctu = s.ctu := rfl
@[simp] theorem joinReadyQueue_bma (s : State) (n : SlotId) (h : Handle) (k : ItemKind) : (joinReadyQueue n h k s).bma = s.bma := rfl
@[simp] theorem joinReadyQueue_cu (s : State) (n : SlotId) (h : Handle) (k : ItemKind) : (joinReadyQueue n h k s).cu = s.cu := rfl
@[simp] theorem joinReadyQueue_pending (s : State) (n : SlotId) (h : Handle) (k : ItemKind) : (joinReadyQueue n h k s).pending = s.pending := rfl
@[simp] theorem joinReadyQueue_rss_words (s : State) (n : SlotId) (h : Handle) (k : ItemKind) : (joinReadyQueue n h k s).rss.words = s.rss.words := rfl
@[simp] theorem joinReadyQueue_rss_freeQueue (s : State) (n : SlotId) (h : Handle) (k : ItemKind) : (joinReadyQueue n h k s).rss.freeQueue = s.rss.freeQueue := rfl
@[simp] theorem joinReadyQueue_rss_postQueue (s : State) (n : SlotId) (h : Handle) (k : ItemKind) : (joinReadyQueue n h k s).rss.postQueue = s.rss.postQueue := rfl
@[simp] theorem joinReadyQueue_ap_active (s : State) (n : SlotId) (h : Handle) (k : ItemKind) : (joinReadyQueue n h k s).ap.active = s.ap.active := rfl
@[simp] theorem joinReadyQueue_ap_bufferA (s : State) (n : SlotId) (h : Handle) (k : ItemKind) : (joinReadyQueue n h k s).ap.bufferA = s.ap.bufferA := rfl
@[simp] theorem joinReadyQueue_ap_bufferB (s : State) (n : SlotId) (h : Handle) (k : ItemKind) : (joinReadyQueue n h k s).ap.bufferB = s.ap.bufferB := rfl
@[simp] theorem joinTransferQueue_ec (s : State) (n : SlotId) (h : Handle) (k : TransferKind) : (joinTransferQueue n h k s).ec = s.ec := rfl
@[simp] theorem joinTransferQueue_hbi (s : State) (n : SlotId) (h : Handle) (k : TransferKind) : (joinTransferQueue n h k s).hbi = s.hbi := rfl
@[simp] theorem joinTransferQueue_ou (s : State) (n : SlotId) (h : Handle) (k : TransferKind) : (joinTransferQueue n h k s).ou = s.ou := rfl
@[simp] theorem joinTransferQueue_ap (s : State) (n : SlotId) (h : Handle) (k : TransferKind) : (joinTransferQueue n h k s).ap = s.ap := rfl
@[simp] theorem joinTransferQueue_dc (s : State) (n : SlotId) (h : Handle) (k : TransferKind) : (joinTransferQueue n h k s).dc = s.dc := rfl
@[simp] theorem joinTransferQueue_bma (s : State) (n : SlotId) (h : Handle) (k : TransferKind) : (joinTransferQueue n h k s).bma = s.bma := rfl
@[simp] theorem joinTransferQueue_cu (s : State) (n : SlotId) (h : Handle) (k : TransferKind) : (joinTransferQueue n h k s).cu = s.cu := rfl
@[simp] theorem joinTransferQueue_pending (s : State) (n : SlotId) (h : Handle) (k : TransferKind) : (joinTransferQueue n h k s).pending = s.pending := rfl
@[simp] theorem joinTransferQueue_rss_words (s : State) (n : SlotId) (h : Handle) (k : TransferKind) : (joinTransferQueue n h k s).rss.words = s.rss.words := rfl
@[simp] theorem joinTransferQueue_rss_freeQueue (s : State) (n : SlotId) (h : Handle) (k : TransferKind) : (joinTransferQueue n h k s).rss.freeQueue = s.rss.freeQueue := rfl
@[simp] theorem joinTransferQueue_rss_postQueue (s : State) (n : SlotId) (h : Handle) (k : TransferKind) : (joinTransferQueue n h k s).rss.postQueue = s.rss.postQueue := rfl
@[simp] theorem joinTransferQueue_ctu_active (s : State) (n : SlotId) (h : Handle) (k : TransferKind) : (joinTransferQueue n h k s).ctu.active = s.ctu.active := rfl
@[simp] theorem joinTransferQueue_ctu_record (s : State) (n : SlotId) (h : Handle) (k : TransferKind) : (joinTransferQueue n h k s).ctu.record = s.ctu.record := rfl
@[simp] theorem waitAsControl_ec (s : State) (n : SlotId) (h : Handle) : (waitAsControl n h s).ec = s.ec := rfl
@[simp] theorem waitAsControl_hbi (s : State) (n : SlotId) (h : Handle) : (waitAsControl n h s).hbi = s.hbi := rfl
@[simp] theorem waitAsControl_ap (s : State) (n : SlotId) (h : Handle) : (waitAsControl n h s).ap = s.ap := rfl
@[simp] theorem waitAsControl_dc (s : State) (n : SlotId) (h : Handle) : (waitAsControl n h s).dc = s.dc := rfl
@[simp] theorem waitAsControl_ctu (s : State) (n : SlotId) (h : Handle) : (waitAsControl n h s).ctu = s.ctu := rfl
@[simp] theorem waitAsControl_bma (s : State) (n : SlotId) (h : Handle) : (waitAsControl n h s).bma = s.bma := rfl
@[simp] theorem waitAsControl_cu (s : State) (n : SlotId) (h : Handle) : (waitAsControl n h s).cu = s.cu := rfl
@[simp] theorem waitAsControl_pending (s : State) (n : SlotId) (h : Handle) : (waitAsControl n h s).pending = s.pending := rfl
@[simp] theorem waitAsControl_rss_words (s : State) (n : SlotId) (h : Handle) : (waitAsControl n h s).rss.words = s.rss.words := rfl
@[simp] theorem waitAsControl_rss_freeQueue (s : State) (n : SlotId) (h : Handle) : (waitAsControl n h s).rss.freeQueue = s.rss.freeQueue := rfl
@[simp] theorem waitAsControl_rss_postQueue (s : State) (n : SlotId) (h : Handle) : (waitAsControl n h s).rss.postQueue = s.rss.postQueue := rfl
@[simp] theorem waitAsControl_ou_heldCount (s : State) (n : SlotId) (h : Handle) : (waitAsControl n h s).ou.heldCount = s.ou.heldCount := rfl
@[simp] theorem beginClear_hbi (s : State) : (beginClear s).hbi = s.hbi := rfl
@[simp] theorem beginClear_rss (s : State) : (beginClear s).rss = s.rss := rfl
@[simp] theorem beginClear_ap (s : State) : (beginClear s).ap = s.ap := rfl
@[simp] theorem beginClear_dc (s : State) : (beginClear s).dc = s.dc := rfl
@[simp] theorem beginClear_ctu (s : State) : (beginClear s).ctu = s.ctu := rfl
@[simp] theorem beginClear_cu (s : State) : (beginClear s).cu = s.cu := rfl
@[simp] theorem beginClear_pending (s : State) : (beginClear s).pending = s.pending := rfl
@[simp] theorem beginClear_ec_resetPin (s : State) : (beginClear s).ec.resetPin = s.ec.resetPin := rfl
@[simp] theorem beginClear_ec_dispatchEnable (s : State) : (beginClear s).ec.dispatchEnable = s.ec.dispatchEnable := rfl
@[simp] theorem beginClear_ec_prescaler (s : State) : (beginClear s).ec.prescaler = s.ec.prescaler := rfl
@[simp] theorem beginClear_ou_heldCount (s : State) : (beginClear s).ou.heldCount = s.ou.heldCount := rfl
@[simp] theorem beginClear_bma_burst (s : State) : (beginClear s).bma.burst = s.bma.burst := rfl
@[simp] theorem beginClear_bma_ctuWaiting (s : State) : (beginClear s).bma.ctuWaiting = s.bma.ctuWaiting := rfl
@[simp] theorem beginClear_bma_lastGranted (s : State) : (beginClear s).bma.lastGranted = s.bma.lastGranted := rfl

/-! ### Reading back -/

@[simp] theorem slotState_setSlot (s : State) (n m : SlotId) (st : SlotState) :
    (s.setSlot n st).slotState m = if n = m then st else s.slotState m := by
  simp [State.setSlot, State.slotState, Vector.getElem_set, Fin.ext_iff]

@[simp] theorem stream_setStream (s : State) (h k : Handle) (c : StreamContext) :
    (s.setStream h c).stream k = if h = k then c else s.stream k := by
  simp [State.setStream, State.stream, Vector.getElem_set, Fin.ext_iff]

@[simp] theorem stream_updateStream (s : State) (h k : Handle) (f : StreamContext → StreamContext) :
    (s.updateStream h f).stream k = if h = k then f (s.stream h) else s.stream k := by
  simp [State.updateStream]

@[simp] theorem stream_freeStream (s : State) (h k : Handle) :
    (freeStream h s).stream k = if h = k then freeContext (s.stream h).generation else s.stream k := by
  simp [freeStream]

/-- A slot word depends on the slot words alone. -/
theorem slotWord_congr {s t : State} (h : t.rss.words = s.rss.words) : t.slotWord = s.slotWord := by
  funext n k; simp [State.slotWord, h]

/-- A context depends on the Stream Table alone. -/
theorem stream_congr {s t : State} (h : t.ou.streams = s.ou.streams) : t.stream = s.stream := by
  funext k; simp [State.stream, h]

/-- A slot state depends on the slot states alone. -/
theorem slotState_congr {s t : State} (h : t.rss.states = s.rss.states) : t.slotState = s.slotState := by
  funext k; simp [State.slotState, h]

/-! ### The staging buffers -/

@[simp] theorem BufferId.other_ne (i : BufferId) : i.other ≠ i := by cases i <;> decide
@[simp] theorem BufferId.ne_other (i : BufferId) : i ≠ i.other := by cases i <;> decide

/-- Two Absorb Paths with the same two buffers. -/
theorem AbsorbPath.buffer_congr {p q : AbsorbPath} (hA : p.bufferA = q.bufferA) (hB : p.bufferB = q.bufferB)
    (j : BufferId) : p.buffer j = q.buffer j := by
  cases j <;> assumption

/-- R103: some buffer is EMPTY, said of a buffer and of the other. -/
theorem AbsorbPath.someEmpty_iff (ap : AbsorbPath) (i : BufferId) :
    (ap.bufferA.state = .empty ∨ ap.bufferB.state = .empty) ↔
      ((ap.buffer i).state = .empty ∨ (ap.buffer i.other).state = .empty) := by
  cases i
  · exact Iff.rfl
  · exact Or.comm

@[simp] theorem AbsorbPath.setBuffer_buffer (ap : AbsorbPath) (i j : BufferId) (b : Buffer) :
    (ap.setBuffer i b).buffer j = if j = i then b else ap.buffer j := by
  cases i <;> cases j <;> rfl
@[simp] theorem AbsorbPath.setBuffer_readyQueue (ap : AbsorbPath) (i : BufferId) (b : Buffer) :
    (ap.setBuffer i b).readyQueue = ap.readyQueue := by cases i <;> rfl
@[simp] theorem AbsorbPath.setBuffer_active (ap : AbsorbPath) (i : BufferId) (b : Buffer) :
    (ap.setBuffer i b).active = ap.active := by cases i <;> rfl
@[simp] theorem AbsorbPath.setBuffer_nextFill (ap : AbsorbPath) (i : BufferId) (b : Buffer) :
    (ap.setBuffer i b).nextFill = ap.nextFill := by cases i <;> rfl
@[simp] theorem AbsorbPath.setBuffer_nextDrain (ap : AbsorbPath) (i : BufferId) (b : Buffer) :
    (ap.setBuffer i b).nextDrain = ap.nextDrain := by cases i <;> rfl

end Sys2Proof.Machine
end

