-- ==== Sys2Proof/Laws/Ops.lean ====
section
/-! SUPPORT. What each shared operation can do, said once: the Completion Unit's endings in closed form, the capture of
an error, the clearing of causes, the arbiter, the cut, and the parts of the state each leaves as it was. -/

namespace Sys2Proof.Machine

/-! ### The capture and the causes -/

/-- R182: a protocol error changes the capture and the PROTO cause, and nothing else. -/
theorem protocolError_eq (cause : ProtocolError) (offset : BitVec 12) (s : State) :
    protocolError cause offset s = { s with hbi := s.hbi.capturing cause offset } := by
  unfold protocolError HostInterface.capturing
  split <;> rename_i h <;> simp [h]

/-- R172: the clearing of the CQ cause. -/
theorem clearCq_eq (s : State) :
    clearCq s = { s with cu :=
      if s.cu.cqCause = true then
        if s.cu.threshold ≤ s.cu.queue.length then { s.cu with timer := none }
        else if s.cu.queue ≠ [] ∧ s.cu.holdTime ≠ 0 then
          { s.cu with cqCause := false, timer := some s.cu.holdTime.toNat }
        else { s.cu with cqCause := false, timer := none }
      else s.cu } := by
  rcases s with ⟨ec, hbi, rss, ou, ap, dc, ctu, bma, ⟨q, b, t, w, tm, c⟩, p⟩
  by_cases hc : c = true
  · by_cases ht : t ≤ q.length
    · simp [clearCq, raiseCq, hc, ht]
    · rcases q with _ | ⟨r, q⟩
      · have ht' : t ≠ 0 := fun h => ht (by simp [h])
        simp [clearCq, hc, ht']
      · by_cases hw : w = 0#16 <;> simp only [clearCq, startCoalescing, hc, ht, hw, if_true, if_false] <;> simp [hw]
  · simp [clearCq, hc]

/-! ### Endings -/

/-- R162, R170: a record written at the tail of the Completion Queue. -/
theorem writeRecord_eq (r : Record) (s : State) : writeRecord r s = { s with cu := s.cu.afterWrites [r] } := by
  rcases s with ⟨ec, hbi, rss, ou, ap, dc, ctu, bma, ⟨q, b, t, w, tm, c⟩, p⟩
  by_cases hc : c = true
  · simp [writeRecord, examineCoalescing, CompletionUnit.afterWrites, hc]
  · by_cases ht : t ≤ (q ++ [r]).length
    · simp only [writeRecord, examineCoalescing, raiseCq, CompletionUnit.afterWrites, hc, ht, if_true]; simp
    · cases tm <;> by_cases hw : w = 0#16 <;>
        simp only [writeRecord, examineCoalescing, startCoalescing, CompletionUnit.afterWrites, hc, ht, hw,
          if_false] <;> simp [hw]

/-- R162: with no room, every ending joins the Backlog. -/
theorem State.afterEndings_full (s : State) (rs : List Record) (h : s.cu.room = 0) :
    s.afterEndings rs =
      { s with
        cu.backlog := s.cu.backlog ++ rs.map fun r => { slot := r.slot, record := r }
        rss.states := markSlots s.rss.states (rs.map (·.slot)) .backlog } := by
  simp [State.afterEndings, CompletionUnit.afterEndings, CompletionUnit.afterWrites, SlotStore.afterEndings, h,
    markSlots]

/-- R162: with room, an ending is written and its slot freed. -/
theorem State.afterEndings_one (s : State) (r : Record) (h : s.cu.room ≠ 0) :
    s.afterEndings [r] =
      { s with
        cu := s.cu.afterWrites [r]
        rss := { s.rss with
          states := s.rss.states.set r.slot .free
          freeQueue := s.rss.freeQueue ++ [r.slot] } } := by
  obtain ⟨k, hk⟩ := Nat.exists_eq_succ_of_ne_zero h
  rcases s with ⟨ec, hbi, rss, ou, ap, dc, ctu, bma, ⟨q, b, t, w, tm, c⟩, p⟩
  have hb : b = [] := by by_contra hb; simp [CompletionUnit.room, hb] at h
  simp only at hk
  simp only [State.afterEndings, CompletionUnit.afterEndings, SlotStore.afterEndings, hk, List.take_succ_cons,
    List.drop_succ_cons, List.take_nil, List.drop_nil, List.map_cons, List.map_nil, markSlots, List.foldl_cons,
    List.foldl_nil, List.append_nil]
  subst hb
  simp only [CompletionUnit.afterWrites]
  split <;> [rfl; split <;> rfl]

/-- R162: the room left after a record written. -/
theorem CompletionUnit.room_afterWrites (cu : CompletionUnit) (r : Record) (k : Nat) (h : cu.room = k + 1) :
    (cu.afterWrites [r]).room = k := by
  have hb : cu.backlog = [] := by by_contra hb; simp [CompletionUnit.room, hb] at h
  simp only [CompletionUnit.room, hb, if_true] at h
  have hq : (cu.afterWrites [r]).queue.length = cu.queue.length + 1 := by
    simp only [CompletionUnit.afterWrites]; split <;> [simp; split <;> simp]
  have hb' : (cu.afterWrites [r]).backlog = [] := by
    simp only [CompletionUnit.afterWrites]; split <;> [exact hb; split <;> exact hb]
  simp only [CompletionUnit.room, hb', hq, if_true]
  omega

/-- R94, R162: one ending. -/
theorem complete_eq (n : SlotId) (status : Status) (named : Option StreamRef) (s : State) :
    complete n status named s = s.afterEndings [recordOf s n status named] := by
  by_cases hb : s.cu.backlog = []
  · by_cases hq : s.cu.queue.length < Config.queueCapacity
    · have hr : s.cu.room ≠ 0 := by simp only [CompletionUnit.room, hb, if_true]; omega
      rw [State.afterEndings_one _ _ hr]
      simp only [complete, hb, hq, writeRecord_eq, returnToFreeQueue, State.setSlot, recordOf, and_self, if_true]
    · have hr : s.cu.room = 0 := by simp only [CompletionUnit.room, hb, if_true]; omega
      rw [State.afterEndings_full _ _ hr]
      simp [complete, hq, State.setSlot, markSlots, recordOf]
  · have hr : s.cu.room = 0 := by simp [CompletionUnit.room, hb]
    rw [State.afterEndings_full _ _ hr]
    simp [complete, hb, State.setSlot, markSlots, recordOf]

/-- The records written before some others. -/
theorem CompletionUnit.afterWrites_append (cu : CompletionUnit) (rs qs : List Record) :
    cu.afterWrites (rs ++ qs) = (cu.afterWrites rs).afterWrites qs := by
  rcases cu with ⟨q, b, t, w, tm, c⟩
  rcases rs with _ | ⟨r, rs⟩
  · simp [CompletionUnit.afterWrites]
  · rcases qs with _ | ⟨q', qs⟩
    · simp [CompletionUnit.afterWrites]
    · cases c
      · by_cases h1 : t ≤ q.length + (rs.length + 1)
        · have h2 : t ≤ q.length + (rs.length + (qs.length + 1) + 1) := by omega
          simp [CompletionUnit.afterWrites, h1, h2]
        · by_cases h2 : t ≤ q.length + (rs.length + (qs.length + 1) + 1)
          · have h3 : t ≤ q.length + (rs.length + 1 + (qs.length + 1)) := by omega
            have h4 : t ≤ q.length + (rs.length + 1) + (qs.length + 1) := by omega
            simp [CompletionUnit.afterWrites, h1, h2]
          · have h3 : ¬ t ≤ q.length + (rs.length + 1 + (qs.length + 1)) := by omega
            have h4 : ¬ t ≤ q.length + (rs.length + 1) + (qs.length + 1) := by omega
            cases tm <;> by_cases hw : w = 0 <;> simp [CompletionUnit.afterWrites, h1, h2, hw]
      · simp [CompletionUnit.afterWrites]

@[simp] theorem CompletionUnit.afterWrites_queue (cu : CompletionUnit) (rs : List Record) :
    (cu.afterWrites rs).queue = cu.queue ++ rs := by
  simp only [CompletionUnit.afterWrites]; split <;> [rfl; split <;> rfl]

@[simp] theorem CompletionUnit.afterWrites_backlog (cu : CompletionUnit) (rs : List Record) :
    (cu.afterWrites rs).backlog = cu.backlog := by
  simp only [CompletionUnit.afterWrites]; split <;> [rfl; split <;> rfl]

@[simp] theorem CompletionUnit.afterWrites_threshold (cu : CompletionUnit) (rs : List Record) :
    (cu.afterWrites rs).threshold = cu.threshold := by
  simp only [CompletionUnit.afterWrites]; split <;> [rfl; split <;> rfl]

@[simp] theorem CompletionUnit.afterWrites_holdTime (cu : CompletionUnit) (rs : List Record) :
    (cu.afterWrites rs).holdTime = cu.holdTime := by
  simp only [CompletionUnit.afterWrites]; split <;> [rfl; split <;> rfl]

/-- What is written does not read the Backlog. -/
theorem CompletionUnit.afterWrites_setBacklog (cu : CompletionUnit) (b : List BacklogEntry) (rs : List Record) :
    ({ cu with backlog := b } : CompletionUnit).afterWrites rs = { cu.afterWrites rs with backlog := b } := by
  simp only [CompletionUnit.afterWrites]; split <;> [rfl; split <;> rfl]

@[simp] theorem State.afterEndings_nil (s : State) : s.afterEndings [] = s := by
  simp [State.afterEndings, CompletionUnit.afterEndings, CompletionUnit.afterWrites, SlotStore.afterEndings, markSlots]

/-- R163: endings are taken one after another. -/
theorem State.afterEndings_cons (s : State) (r : Record) (rs : List Record) :
    s.afterEndings (r :: rs) = (s.afterEndings [r]).afterEndings rs := by
  by_cases hr : s.cu.room = 0
  · rw [State.afterEndings_full s [r] hr, State.afterEndings_full s (r :: rs) hr, State.afterEndings_full]
    · simp [markSlots]
    · simp [CompletionUnit.room]
  · rw [State.afterEndings_one s r hr]
    obtain ⟨k, hk⟩ := Nat.exists_eq_succ_of_ne_zero hr
    have hb : s.cu.backlog = [] := by by_contra hb; simp [CompletionUnit.room, hb] at hr
    have hk' := CompletionUnit.room_afterWrites s.cu r k hk
    have happ := CompletionUnit.afterWrites_append s.cu [r] (rs.take k)
    simp only [List.singleton_append] at happ
    simp only [State.afterEndings, CompletionUnit.afterEndings, SlotStore.afterEndings, hk', hk,
      List.take_succ_cons, List.drop_succ_cons, List.map_cons, markSlots, List.foldl_cons, happ,
      CompletionUnit.afterWrites_backlog, hb, List.nil_append, List.append_assoc, List.singleton_append]

theorem State.afterEndings_append (s : State) (rs qs : List Record) :
    s.afterEndings (rs ++ qs) = (s.afterEndings rs).afterEndings qs := by
  induction rs generalizing s with
  | nil => simp
  | cons r rs ih => rw [List.cons_append, State.afterEndings_cons, ih, ← State.afterEndings_cons]

@[simp] theorem afterEndings_ec (s : State) (rs : List Record) : (s.afterEndings rs).ec = s.ec := rfl
@[simp] theorem afterEndings_hbi (s : State) (rs : List Record) : (s.afterEndings rs).hbi = s.hbi := rfl
@[simp] theorem afterEndings_ou (s : State) (rs : List Record) : (s.afterEndings rs).ou = s.ou := rfl
@[simp] theorem afterEndings_ap (s : State) (rs : List Record) : (s.afterEndings rs).ap = s.ap := rfl
@[simp] theorem afterEndings_dc (s : State) (rs : List Record) : (s.afterEndings rs).dc = s.dc := rfl
@[simp] theorem afterEndings_ctu (s : State) (rs : List Record) : (s.afterEndings rs).ctu = s.ctu := rfl
@[simp] theorem afterEndings_bma (s : State) (rs : List Record) : (s.afterEndings rs).bma = s.bma := rfl
@[simp] theorem afterEndings_pending (s : State) (rs : List Record) : (s.afterEndings rs).pending = s.pending := rfl
@[simp] theorem afterEndings_words (s : State) (rs : List Record) : (s.afterEndings rs).rss.words = s.rss.words := rfl
@[simp] theorem afterEndings_postQueue (s : State) (rs : List Record) :
    (s.afterEndings rs).rss.postQueue = s.rss.postQueue := rfl

/-- R163: the records outstanding gain those of the endings, in order, at the end. -/
theorem afterEndings_records (s : State) (rs : List Record) : (s.afterEndings rs).records = s.records ++ rs := by
  by_cases hb : s.cu.backlog = []
  · simp [State.records, State.afterEndings, CompletionUnit.afterEndings, hb, Function.comp_def]
  · have hr : s.cu.room = 0 := by simp [CompletionUnit.room, hb]
    simp [State.records, State.afterEndings, CompletionUnit.afterEndings, hr, Function.comp_def]

/-- R163: several endings of one happening, all naming the same stream. -/
theorem completeAll_eq (endings : List Ending) (named : StreamRef) (s : State) :
    completeAll endings named s =
      s.afterEndings (endings.map fun e => recordOf s e.1 e.2 (some named)) := by
  unfold completeAll
  induction endings generalizing s with
  | nil => simp
  | cons e es ih =>
    rw [List.foldl_cons, ih, List.map_cons, State.afterEndings_cons, complete_eq]
    rfl

/-! ### Slots and hold lists -/

/-- R80: several slots take a state. -/
theorem setSlots_eq (s : State) (ns : List SlotId) (st : SlotState) :
    s.setSlots ns st = { s with rss.states := markSlots s.rss.states ns st } := by
  unfold State.setSlots markSlots
  induction ns generalizing s with
  | nil => rfl
  | cons n ns ih => rw [List.foldl_cons, ih]; rfl

/-- R39: what is promoted is the longest front of the hold list that lies contiguous from the frontier. -/
theorem promote_eq (s : State) (start stop : Nat) (promoted left : List SlotId)
    (hc : s.contiguous start stop promoted) (hl : ∀ m ∈ left.head?, s.position m ≠ stop) :
    promote s start (promoted ++ left) = (promoted, left, stop) := by
  induction promoted generalizing start with
  | nil =>
    cases hc
    rcases left with _ | ⟨m, rest⟩
    · rfl
    · simp [promote, hl m (by simp)]
  | cons m rest ih =>
    obtain ⟨hm, hrest⟩ := hc
    simp [promote, hm, ih _ hrest]

/-- R43: a slot enters a hold list directly before the first entry whose offset is greater. -/
theorem insertHeld_eq (s : State) (n : SlotId) (before after : List SlotId)
    (hb : ∀ m ∈ before, s.position m ≤ s.position n) (ha : ∀ m ∈ after.head?, s.position n < s.position m) :
    insertHeld s n (before ++ after) = before ++ n :: after := by
  induction before with
  | nil =>
    rcases after with _ | ⟨m, rest⟩
    · rfl
    · simp [insertHeld, ha m (by simp)]
  | cons m rest ih =>
    have hm : ¬ s.position n < s.position m := Nat.not_lt.mpr (hb m (by simp))
    simp [insertHeld, hm, ih fun k hk => hb k (by simp [hk])]

/-- R29: a slot's offset and length are read from its words. -/
theorem position_congr {s t : State} (h : t.rss.words = s.rss.words) (n : SlotId) : t.position n = s.position n := by
  simp only [State.position, State.slotWord, h]

theorem fragmentLength_congr {s t : State} (h : t.rss.words = s.rss.words) (n : SlotId) :
    t.fragmentLength n = s.fragmentLength n := by
  simp only [State.fragmentLength, State.slotWord, h]

theorem fragmentEnd_congr {s t : State} (h : t.rss.words = s.rss.words) (n : SlotId) :
    t.fragmentEnd n = s.fragmentEnd n := by
  simp only [State.fragmentEnd, position_congr h, fragmentLength_congr h]

/-- R39: promotion reads nothing but slot words. -/
theorem promote_congr {s t : State} (h : t.rss.words = s.rss.words) (start : Nat) (ms : List SlotId) :
    promote t start ms = promote s start ms := by
  induction ms generalizing start with
  | nil => rfl
  | cons m ms ih => simp only [promote, position_congr h, fragmentLength_congr h, ih]

/-- R43: so does insertion. -/
theorem insertHeld_congr {s t : State} (h : t.rss.words = s.rss.words) (n : SlotId) (ms : List SlotId) :
    insertHeld t n ms = insertHeld s n ms := by
  induction ms with
  | nil => rfl
  | cons m ms ih => simp only [insertHeld, position_congr h, ih]

/-- R43: inserting keeps the entries. -/
theorem mem_insertHeld (s : State) (n k : SlotId) (ms : List SlotId) :
    k ∈ insertHeld s n ms ↔ k = n ∨ k ∈ ms := by
  induction ms with
  | nil => simp [insertHeld]
  | cons m ms ih => simp only [insertHeld]; split <;> simp [ih]; tauto

/-! ### The cut and the teardown -/

/-- R62 step 4, R64: an active item of the stream, not in its finalization, is cut. -/
theorem cutActive_cut (h : Handle) (s : State) (item : ActiveItem) (ha : s.ap.active = some item)
    (hh : item.stream = h) (hd : s.dc.mode ≠ .finalizing) :
    cutActive h s =
      { s with
        ap := { s.ap.discard .full with active := some { item with cut := true } }
        bma.fetchWaiting := false } := by
  simp [cutActive, ha, hh, hd]

/-- R62 step 4, R65: nothing is cut when the stream has no active item or its item is in its finalization. -/
theorem cutActive_none (h : Handle) (s : State)
    (hn : ∀ item, s.ap.active = some item → item.stream = h → s.dc.mode = .finalizing) : cutActive h s = s := by
  unfold cutActive
  split
  · rename_i item ha
    rw [if_neg]
    rintro ⟨hh, hd⟩
    exact hd (hn item ha hh)
  · rfl

@[simp] theorem cutActive_ec (h : Handle) (s : State) : (cutActive h s).ec = s.ec := by
  unfold cutActive; split <;> [split <;> rfl; rfl]
@[simp] theorem cutActive_hbi (h : Handle) (s : State) : (cutActive h s).hbi = s.hbi := by
  unfold cutActive; split <;> [split <;> rfl; rfl]
@[simp] theorem cutActive_rss (h : Handle) (s : State) : (cutActive h s).rss = s.rss := by
  unfold cutActive; split <;> [split <;> rfl; rfl]
@[simp] theorem cutActive_ou (h : Handle) (s : State) : (cutActive h s).ou = s.ou := by
  unfold cutActive; split <;> [split <;> rfl; rfl]
@[simp] theorem cutActive_dc (h : Handle) (s : State) : (cutActive h s).dc = s.dc := by
  unfold cutActive; split <;> [split <;> rfl; rfl]
@[simp] theorem cutActive_ctu (h : Handle) (s : State) : (cutActive h s).ctu = s.ctu := by
  unfold cutActive; split <;> [split <;> rfl; rfl]
@[simp] theorem cutActive_cu (h : Handle) (s : State) : (cutActive h s).cu = s.cu := by
  unfold cutActive; split <;> [split <;> rfl; rfl]
@[simp] theorem cutActive_pending (h : Handle) (s : State) : (cutActive h s).pending = s.pending := by
  unfold cutActive; split <;> [split <;> rfl; rfl]
@[simp] theorem cutActive_readyQueue (h : Handle) (s : State) : (cutActive h s).ap.readyQueue = s.ap.readyQueue := by
  unfold cutActive; split <;> [split <;> rfl; rfl]

/-! ### The arbiter -/

/-- R109: what an arbitration can do: nothing, or one of the two grants. -/
theorem arbitrate_cases (s : State) :
    arbitrate s = s ∨
    (∃ item, s.ap.active = some item ∧ s.running ∧ s.bma.burst = none ∧ s.bma.fetchWaiting = true ∧
      arbitrate s = grantFetch item s) ∨
    (∃ t, s.ctu.active = some t ∧ s.running ∧ s.bma.burst = none ∧ s.bma.ctuWaiting = true ∧
      arbitrate s = grantCtu t s) := by
  unfold arbitrate
  split
  · rename_i h
    split
    · rename_i _ _ _ item hw ha
      refine .inr (.inl ⟨item, ha, h.1, h.2, ?_, rfl⟩)
      revert hw; unfold BusArbiter.winner; split <;> simp_all
    · rename_i t hw ha
      refine .inr (.inr ⟨t, ha, h.1, h.2, ?_, rfl⟩)
      revert hw; unfold BusArbiter.winner; split <;> simp_all
    · exact .inl rfl
  · exact .inl rfl

/-- R103: what the examination of the Fetch Engine's conditions can do. -/
theorem requestFetch_cases (s : State) :
    requestFetch s = s ∨ requestFetch s = arbitrate { s with bma.fetchWaiting := true } := by
  unfold requestFetch
  split <;> [exact .inl rfl; (split <;> simp)]

/-- R106: what the examination of the Digest Core can do. -/
theorem beginDrain_cases (s : State) :
    beginDrain s = s ∨
    beginDrain s =
      { s with
        ap := s.ap.setBuffer s.ap.nextDrain { (s.ap.buffer s.ap.nextDrain) with state := .draining }
        dc.mode := .draining } := by
  unfold beginDrain
  split <;> simp

@[simp] theorem arbitrate_ec (s : State) : (arbitrate s).ec = s.ec := by
  rcases arbitrate_cases s with h | ⟨_, _, _, _, _, h⟩ | ⟨_, _, _, _, _, h⟩ <;> rw [h] <;> rfl
@[simp] theorem arbitrate_hbi (s : State) : (arbitrate s).hbi = s.hbi := by
  rcases arbitrate_cases s with h | ⟨_, _, _, _, _, h⟩ | ⟨_, _, _, _, _, h⟩ <;> rw [h] <;> rfl
@[simp] theorem arbitrate_rss (s : State) : (arbitrate s).rss = s.rss := by
  rcases arbitrate_cases s with h | ⟨_, _, _, _, _, h⟩ | ⟨_, _, _, _, _, h⟩ <;> rw [h] <;> rfl
@[simp] theorem arbitrate_ou (s : State) : (arbitrate s).ou = s.ou := by
  rcases arbitrate_cases s with h | ⟨_, _, _, _, _, h⟩ | ⟨_, _, _, _, _, h⟩ <;> rw [h] <;> rfl
@[simp] theorem arbitrate_dc (s : State) : (arbitrate s).dc = s.dc := by
  rcases arbitrate_cases s with h | ⟨_, _, _, _, _, h⟩ | ⟨_, _, _, _, _, h⟩ <;> rw [h] <;> rfl
@[simp] theorem arbitrate_cu (s : State) : (arbitrate s).cu = s.cu := by
  rcases arbitrate_cases s with h | ⟨_, _, _, _, _, h⟩ | ⟨_, _, _, _, _, h⟩ <;> rw [h] <;> rfl
@[simp] theorem arbitrate_pending (s : State) : (arbitrate s).pending = s.pending := by
  rcases arbitrate_cases s with h | ⟨_, _, _, _, _, h⟩ | ⟨_, _, _, _, _, h⟩ <;> rw [h] <;> rfl
@[simp] theorem endBurst_ec (s : State) : (endBurst s).ec = s.ec := by simp [endBurst]
@[simp] theorem endBurst_hbi (s : State) : (endBurst s).hbi = s.hbi := by simp [endBurst]
@[simp] theorem endBurst_rss (s : State) : (endBurst s).rss = s.rss := by simp [endBurst]
@[simp] theorem endBurst_ou (s : State) : (endBurst s).ou = s.ou := by simp [endBurst]
@[simp] theorem endBurst_dc (s : State) : (endBurst s).dc = s.dc := by simp [endBurst]
@[simp] theorem endBurst_cu (s : State) : (endBurst s).cu = s.cu := by simp [endBurst]
@[simp] theorem endBurst_pending (s : State) : (endBurst s).pending = s.pending := by simp [endBurst]
@[simp] theorem requestCtu_ec (s : State) : (requestCtu s).ec = s.ec := by simp [requestCtu]
@[simp] theorem requestCtu_hbi (s : State) : (requestCtu s).hbi = s.hbi := by simp [requestCtu]
@[simp] theorem requestCtu_rss (s : State) : (requestCtu s).rss = s.rss := by simp [requestCtu]
@[simp] theorem requestCtu_ou (s : State) : (requestCtu s).ou = s.ou := by simp [requestCtu]
@[simp] theorem requestCtu_dc (s : State) : (requestCtu s).dc = s.dc := by simp [requestCtu]
@[simp] theorem requestCtu_cu (s : State) : (requestCtu s).cu = s.cu := by simp [requestCtu]
@[simp] theorem requestCtu_pending (s : State) : (requestCtu s).pending = s.pending := by simp [requestCtu]
@[simp] theorem requestFetch_ec (s : State) : (requestFetch s).ec = s.ec := by
  rcases requestFetch_cases s with h | h <;> simp [h]
@[simp] theorem requestFetch_hbi (s : State) : (requestFetch s).hbi = s.hbi := by
  rcases requestFetch_cases s with h | h <;> simp [h]
@[simp] theorem requestFetch_rss (s : State) : (requestFetch s).rss = s.rss := by
  rcases requestFetch_cases s with h | h <;> simp [h]
@[simp] theorem requestFetch_ou (s : State) : (requestFetch s).ou = s.ou := by
  rcases requestFetch_cases s with h | h <;> simp [h]
@[simp] theorem requestFetch_dc (s : State) : (requestFetch s).dc = s.dc := by
  rcases requestFetch_cases s with h | h <;> simp [h]
@[simp] theorem requestFetch_cu (s : State) : (requestFetch s).cu = s.cu := by
  rcases requestFetch_cases s with h | h <;> simp [h]
@[simp] theorem requestFetch_pending (s : State) : (requestFetch s).pending = s.pending := by
  rcases requestFetch_cases s with h | h <;> simp [h]
@[simp] theorem beginDrain_ec (s : State) : (beginDrain s).ec = s.ec := by
  rcases beginDrain_cases s with h | h <;> rw [h]
@[simp] theorem beginDrain_hbi (s : State) : (beginDrain s).hbi = s.hbi := by
  rcases beginDrain_cases s with h | h <;> rw [h]
@[simp] theorem beginDrain_rss (s : State) : (beginDrain s).rss = s.rss := by
  rcases beginDrain_cases s with h | h <;> rw [h]
@[simp] theorem beginDrain_ou (s : State) : (beginDrain s).ou = s.ou := by
  rcases beginDrain_cases s with h | h <;> rw [h]
@[simp] theorem beginDrain_ctu (s : State) : (beginDrain s).ctu = s.ctu := by
  rcases beginDrain_cases s with h | h <;> rw [h]
@[simp] theorem beginDrain_bma (s : State) : (beginDrain s).bma = s.bma := by
  rcases beginDrain_cases s with h | h <;> rw [h]
@[simp] theorem beginDrain_cu (s : State) : (beginDrain s).cu = s.cu := by
  rcases beginDrain_cases s with h | h <;> rw [h]
@[simp] theorem beginDrain_pending (s : State) : (beginDrain s).pending = s.pending := by
  rcases beginDrain_cases s with h | h <;> rw [h]
@[simp] theorem examineAbsorbPath_ec (s : State) : (examineAbsorbPath s).ec = s.ec := by
  simp [examineAbsorbPath]
@[simp] theorem examineAbsorbPath_hbi (s : State) : (examineAbsorbPath s).hbi = s.hbi := by
  simp [examineAbsorbPath]
@[simp] theorem examineAbsorbPath_rss (s : State) : (examineAbsorbPath s).rss = s.rss := by
  simp [examineAbsorbPath]
@[simp] theorem examineAbsorbPath_ou (s : State) : (examineAbsorbPath s).ou = s.ou := by
  simp [examineAbsorbPath]
@[simp] theorem examineAbsorbPath_cu (s : State) : (examineAbsorbPath s).cu = s.cu := by
  simp [examineAbsorbPath]
@[simp] theorem examineAbsorbPath_pending (s : State) : (examineAbsorbPath s).pending = s.pending := by
  simp [examineAbsorbPath]

/-! ### Grants, requests and begun drains: when each occurs -/

/-- R108: while the bus master is busy nothing is granted. -/
theorem arbitrate_busy {s : State} (h : s.bma.burst ≠ none) : arbitrate s = s := by
  simp [arbitrate, h]

/-- R109: with no request waiting nothing is granted. -/
theorem arbitrate_quiet {s : State} (hf : s.bma.fetchWaiting = false) (hc : s.bma.ctuWaiting = false) :
    arbitrate s = s := by
  simp [arbitrate, BusArbiter.winner, hf, hc]

/-- R109: the Fetch Engine's request, waiting alone at the idle bus master, is granted. -/
theorem arbitrate_fetch {s : State} {item : ActiveItem} (hr : s.running) (hb : s.bma.burst = none)
    (hf : s.bma.fetchWaiting = true) (hc : s.bma.ctuWaiting = false) (ha : s.ap.active = some item) :
    arbitrate s = grantFetch item s := by
  simp [arbitrate, BusArbiter.winner, hr, hb, hf, hc, ha]

/-- R109: the CTU's request, waiting alone at the idle bus master, is granted. -/
theorem arbitrate_ctu {s : State} {a : ActiveTransfer} (hr : s.running) (hb : s.bma.burst = none)
    (hf : s.bma.fetchWaiting = false) (hc : s.bma.ctuWaiting = true) (ha : s.ctu.active = some a) :
    arbitrate s = grantCtu a s := by
  simp [arbitrate, BusArbiter.winner, hr, hb, hf, hc, ha]

/-- R103: the request, when every condition holds. -/
theorem requestFetch_wanted {s : State} {item : ActiveItem} (ha : s.ap.active = some item) (hw : wantsBurst s item) :
    requestFetch s = arbitrate { s with bma.fetchWaiting := true } := by
  simp only [requestFetch, ha]; exact if_pos hw

/-- R103: no request, when some condition fails. -/
theorem requestFetch_unwanted {s : State} {item : ActiveItem} (ha : s.ap.active = some item)
    (hw : ¬ wantsBurst s item) : requestFetch s = s := by
  simp only [requestFetch, ha]; exact if_neg hw

@[simp] theorem beginDrain_readyQueue (s : State) : (beginDrain s).ap.readyQueue = s.ap.readyQueue := by
  rcases beginDrain_cases s with h | h <;> simp [h]
@[simp] theorem beginDrain_active (s : State) : (beginDrain s).ap.active = s.ap.active := by
  rcases beginDrain_cases s with h | h <;> simp [h]
@[simp] theorem beginDrain_nextFill (s : State) : (beginDrain s).ap.nextFill = s.ap.nextFill := by
  rcases beginDrain_cases s with h | h <;> simp [h]
@[simp] theorem beginDrain_nextDrain (s : State) : (beginDrain s).ap.nextDrain = s.ap.nextDrain := by
  rcases beginDrain_cases s with h | h <;> simp [h]

/-- R106: what the examination of the Digest Core leaves in each buffer. -/
theorem beginDrain_buffer (s : State) (j : BufferId) :
    (beginDrain s).ap.buffer j =
      if s.dc.mode = .idle ∧ s.ap.active.isSome ∧ s.ap.nextDrain = j ∧ (s.ap.buffer j).state = .full then
        { s.ap.buffer j with state := .draining }
      else s.ap.buffer j := by
  unfold beginDrain
  by_cases hj : s.ap.nextDrain = j
  · subst hj
    split <;> simp_all
  · have hj' : j ≠ s.ap.nextDrain := Ne.symm hj
    split <;> simp [hj, hj']

/-- R106: what the examination of the Digest Core does to its mode; the rest of the Digest Core stays. -/
theorem beginDrain_dc (s : State) :
    (beginDrain s).dc =
      { s.dc with mode :=
          if s.dc.mode = .idle ∧ s.ap.active.isSome ∧ (s.ap.buffer s.ap.nextDrain).state = .full then .draining
          else s.dc.mode } := by
  unfold beginDrain
  split <;> rfl

/-- R103: which buffers are EMPTY is the same before and after a drain begins. -/
@[simp] theorem beginDrain_buffer_empty (s : State) (j : BufferId) :
    ((beginDrain s).ap.buffer j).state = .empty ↔ (s.ap.buffer j).state = .empty := by
  rw [beginDrain_buffer]
  split <;> simp_all

/-- What the examination after a happening can change: the Absorb Path, the Digest Core's mode, the arbiter and the
retry count of the CTU's transfer. -/
theorem examineAbsorbPath_eq (s : State) :
    examineAbsorbPath s = { s with
      ap := (examineAbsorbPath s).ap, dc := (beginDrain s).dc, bma := (examineAbsorbPath s).bma,
      ctu.active := (examineAbsorbPath s).ctu.active } := by
  have hbd : ∀ t : State, beginDrain t = { t with ap := (beginDrain t).ap, dc := (beginDrain t).dc } := by
    intro t; unfold beginDrain; split <;> rfl
  have har : ∀ t : State, arbitrate t =
      { t with ap := (arbitrate t).ap, bma := (arbitrate t).bma, ctu.active := (arbitrate t).ctu.active } := by
    intro t
    rcases arbitrate_cases t with h | ⟨i, _, _, _, _, h⟩ | ⟨a, _, _, _, _, h⟩ <;> rw [h] <;> rfl
  unfold examineAbsorbPath
  rcases requestFetch_cases (beginDrain s) with h | h <;> rw [h]
  · conv_lhs => rw [hbd]
    simp
  · rw [har]
    conv_lhs => rw [hbd]
    simp

@[simp] theorem arbitrate_readyQueue (s : State) : (arbitrate s).ap.readyQueue = s.ap.readyQueue := by
  rcases arbitrate_cases s with h | ⟨_, _, _, _, _, h⟩ | ⟨_, _, _, _, _, h⟩ <;> rw [h] <;> simp [grantFetch, grantCtu]
@[simp] theorem arbitrate_nextDrain (s : State) : (arbitrate s).ap.nextDrain = s.ap.nextDrain := by
  rcases arbitrate_cases s with h | ⟨_, _, _, _, _, h⟩ | ⟨_, _, _, _, _, h⟩ <;> rw [h] <;> simp [grantFetch, grantCtu]
@[simp] theorem examineAbsorbPath_readyQueue (s : State) : (examineAbsorbPath s).ap.readyQueue = s.ap.readyQueue := by
  rcases requestFetch_cases (beginDrain s) with h | h <;> simp [examineAbsorbPath, h]
@[simp] theorem examineAbsorbPath_nextDrain (s : State) : (examineAbsorbPath s).ap.nextDrain = s.ap.nextDrain := by
  rcases requestFetch_cases (beginDrain s) with h | h <;> simp [examineAbsorbPath, h]

/-- R103, R112: the examination leaves the active item as it was, but for the retry count that a grant sets to 0. -/
theorem examineAbsorbPath_active (s : State) (item : ActiveItem) (ha : s.ap.active = some item) :
    ∃ count, (examineAbsorbPath s).ap.active = some { item with retryCount := count } := by
  unfold examineAbsorbPath
  rcases requestFetch_cases (beginDrain s) with h | h <;> rw [h]
  · exact ⟨item.retryCount, by simpa using ha⟩
  · rcases arbitrate_cases { beginDrain s with bma.fetchWaiting := true } with h | ⟨j, hj, _, _, _, h⟩ |
      ⟨_, _, _, _, _, h⟩ <;> rw [h]
    · exact ⟨item.retryCount, by simpa using ha⟩
    · have : item = j := by simpa [ha] using hj
      exact ⟨0, by simp [grantFetch, this]⟩
    · exact ⟨item.retryCount, by simpa [grantCtu] using ha⟩

/-- R103, R105, R109: the grant of the Fetch Engine's request, in the statements' own words. -/
theorem grantFetch_eq (item : ActiveItem) (s : State) : grantFetch item s = s.fetchGranted item := rfl

/-- R109, R146: the grant of the CTU's request, in the statements' own words. -/
theorem grantCtu_eq (a : ActiveTransfer) (s : State) : grantCtu a s = s.ctuGranted a := rfl

/-- R108, R109: the end of the burst on the bus, in RUN. -/
theorem endBurst_eq (s : State) (h : s.running) : endBurst s = s.busFreed := by
  rcases s with ⟨ec, hbi, rss, ou, ap, dc, ctu, ⟨b, f, c, l⟩, cu, p⟩
  simp only [endBurst, arbitrate, State.busFreed, BusArbiter.winner, grantFetch_eq, grantCtu_eq]
  rw [if_pos ⟨h, trivial⟩]
  cases f <;> cases c <;> cases l <;> cases ap.active <;> cases ctu.active <;> simp <;> rfl

end Sys2Proof.Machine
end

