-- ==== Sys2Proof/Laws/Window.lean ====
section
/-! SUPPORT. The register window: every register's offset is a whole word and names that register. -/

namespace Sys2Proof

/-- R201: the offset of slot word `k` of slot `n`. -/
theorem offsetOf_slotWord_toNat (n : SlotId) (k : Fin 8) :
    (offsetOf (.slotWord n k)).toNat = 4 * (256 + 8 * n.val + k.val) := by
  have h1 := n.isLt
  have h2 := k.isLt
  simp [offsetOf]; omega

/-- R201: every register's offset is a multiple of 4. -/
theorem isNarrow_offsetOf (r : Register) : isNarrow .word (offsetOf r) = false := by
  cases r with
  | cqHead k => revert k; decide
  | streamInfo k => revert k; decide
  | digest k => revert k; decide
  | slotWord n k => simp [isNarrow, offsetOf_slotWord_toNat]
  | _ => decide

set_option maxRecDepth 20000 in
/-- R201: the offset of a register names it. -/
theorem registerAt_offsetOf (r : Register) : registerAt (offsetOf r) = some r := by
  cases r with
  | cqHead k => revert k; decide
  | streamInfo k => revert k; decide
  | digest k => revert k; decide
  | slotWord n k =>
    have h1 := n.isLt
    have h2 := k.isLt
    unfold registerAt
    rw [offsetOf_slotWord_toNat]
    have : 4 * (256 + 8 * n.val + k.val) / 4 = 256 + 8 * n.val + k.val := by omega
    rw [this]
    obtain ⟨m, hm⟩ : ∃ m, m = 256 + 8 * n.val + k.val := ⟨_, rfl⟩
    rw [← hm]
    unfold registerAtWord
    split <;> try omega
    split
    · omega
    · unfold slotWordAt
      split
      · congr 2 <;> ext <;> simp <;> omega
      · omega
  | _ => decide

end Sys2Proof

namespace Sys2Proof.Machine

/-- R179: a command BAD_WIDTH changes the host bus interface alone. -/
theorem execBadWidth_frame (direction : Direction) (size : AccessSize) (offset : BitVec 12) (s : State) :
    ∃ t, execBadWidth direction size offset s = .next t ∧ t = { s with hbi := t.hbi } := by
  unfold execBadWidth
  split
  · refine ⟨_, rfl, ?_⟩
    rw [protocolError_eq]; unfold answerRefused; cases direction <;> rfl
  · exact ⟨_, rfl, rfl⟩

/-- R181: a command READ_ONLY changes the host bus interface alone. -/
theorem execReadOnly_frame (offset : BitVec 12) (s : State) :
    ∃ t, execReadOnly offset s = .next t ∧ t = { s with hbi := t.hbi } := by
  unfold execReadOnly
  split
  · refine ⟨_, rfl, ?_⟩
    rw [protocolError_eq]
  · exact ⟨_, rfl, rfl⟩

end Sys2Proof.Machine
end

