-- ==== Sys2Proof/Laws/PerInstr.lean ====
section
/-! SUPPORT. Families of lemmas with one lemma for each command. AccessWidth: of the well-formed window commands,
BAD_WIDTH alone is a narrow access. -/

/-- R178, R179: the access of a well-formed command is narrow exactly when the command is a BAD_WIDTH. -/
def Sys2Proof.Laws.AccessWidth.Statement (i : Sys2Proof.Instr) : Prop :=
  i.wellFormed = true → ∀ a, Sys2Proof.accessOf i = some a →
    (Sys2Proof.isNarrow a.size a.offset = true ↔ ∃ direction size offset, i = .badWidth direction size offset)

namespace Sys2Proof.Laws.AccessWidth

open Sys2Proof

/-- A write of a whole register is not narrow. -/
theorem wordWrite_isNarrow (r : Register) (value : Word) :
    isNarrow (wordWrite r value).size (wordWrite r value).offset = false := isNarrow_offsetOf r

theorem claim : Statement .claim := by
  rintro - a ⟨⟩
  simp [isNarrow_offsetOf]

theorem returnSlot (value : Word) : Statement (.returnSlot value) := by
  rintro - a ⟨⟩
  simp [wordWrite_isNarrow]

theorem post (value : Word) : Statement (.post value) := by
  rintro - a ⟨⟩
  simp [wordWrite_isNarrow]

theorem slotWordWrite (slot : SlotId) (word : Fin 8) (value : Word) : Statement (.slotWordWrite slot word value) := by
  rintro - a ⟨⟩
  simp [wordWrite_isNarrow]

theorem cqPop (value : Word) : Statement (.cqPop value) := by
  rintro - a ⟨⟩
  simp [wordWrite_isNarrow]

theorem dispatch (value : Word) : Statement (.dispatch value) := by
  rintro - a ⟨⟩
  simp [wordWrite_isNarrow]

theorem engineClear (value : Word) : Statement (.engineClear value) := by
  rintro - a ⟨⟩
  simp [wordWrite_isNarrow]

theorem timebaseWrite (value : Word) : Statement (.timebaseWrite value) := by
  rintro - a ⟨⟩
  simp [wordWrite_isNarrow]

theorem cqConfigWrite (value : Word) : Statement (.cqConfigWrite value) := by
  rintro - a ⟨⟩
  simp [wordWrite_isNarrow]

theorem cqCauseClear (value : Word) : Statement (.cqCauseClear value) := by
  rintro - a ⟨⟩
  simp [wordWrite_isNarrow]

theorem protoCauseClear (value : Word) : Statement (.protoCauseClear value) := by
  rintro - a ⟨⟩
  simp [wordWrite_isNarrow]

theorem readyCauseClear (value : Word) : Statement (.readyCauseClear value) := by
  rintro - a ⟨⟩
  simp [wordWrite_isNarrow]

theorem intEnableWrite (value : Word) : Statement (.intEnableWrite value) := by
  rintro - a ⟨⟩
  simp [wordWrite_isNarrow]

theorem protoErrClear (value : Word) : Statement (.protoErrClear value) := by
  rintro - a ⟨⟩
  simp [wordWrite_isNarrow]

theorem streamSelect (value : Word) : Statement (.streamSelect value) := by
  rintro - a ⟨⟩
  simp [wordWrite_isNarrow]

theorem digestSelect (value : Word) : Statement (.digestSelect value) := by
  rintro - a ⟨⟩
  simp [wordWrite_isNarrow]

theorem badWidth (direction : Direction) (size : AccessSize) (offset : BitVec 12) : Statement (.badWidth direction size offset) := by
  rintro h a ⟨⟩
  simpa [Instr.wellFormed] using h

theorem badAddress (direction : Direction) (offset : BitVec 12) : Statement (.badAddress direction offset) := by
  rintro h a ⟨⟩
  simp only [Instr.wellFormed, Bool.and_eq_true, Bool.not_eq_true'] at h
  simp [h.1]

theorem readOnly (offset : BitVec 12) : Statement (.readOnly offset) := by
  rintro h a ⟨⟩
  simp only [Instr.wellFormed, Bool.and_eq_true, Bool.not_eq_true'] at h
  simp [h.1]

theorem resetAssert : Statement .resetAssert := by
  rintro - a ⟨⟩

theorem resetRelease : Statement .resetRelease := by
  rintro - a ⟨⟩

theorem startUpSweepEnd : Statement .startUpSweepEnd := by
  rintro - a ⟨⟩

theorem sweepRss : Statement .sweepRss := by
  rintro - a ⟨⟩

theorem sweepStreamTable : Statement .sweepStreamTable := by
  rintro - a ⟨⟩

theorem sweepAbsorbPath : Statement .sweepAbsorbPath := by
  rintro - a ⟨⟩

theorem sweepCtu : Statement .sweepCtu := by
  rintro - a ⟨⟩

theorem sweepCu : Statement .sweepCu := by
  rintro - a ⟨⟩

theorem clearingSweepEnd : Statement .clearingSweepEnd := by
  rintro - a ⟨⟩

theorem tick : Statement .tick := by
  rintro - a ⟨⟩

theorem gapTimerExpiry (handle : Handle) : Statement (.gapTimerExpiry handle) := by
  rintro - a ⟨⟩

theorem coalescingTimerExpiry : Statement .coalescingTimerExpiry := by
  rintro - a ⟨⟩

theorem openRequest : Statement .openRequest := by
  rintro - a ⟨⟩

theorem fragmentRequest : Statement .fragmentRequest := by
  rintro - a ⟨⟩

theorem abortRequest : Statement .abortRequest := by
  rintro - a ⟨⟩

theorem releaseRequest : Statement .releaseRequest := by
  rintro - a ⟨⟩

theorem exportRequest : Statement .exportRequest := by
  rintro - a ⟨⟩

theorem importRequest : Statement .importRequest := by
  rintro - a ⟨⟩

theorem unknownKind : Statement .unknownKind := by
  rintro - a ⟨⟩

theorem itemTake : Statement .itemTake := by
  rintro - a ⟨⟩

theorem burstOk (lanes : Vector Byte 64) : Statement (.burstOk lanes) := by
  rintro - a ⟨⟩

theorem burstRetry : Statement .burstRetry := by
  rintro - a ⟨⟩

theorem retryLimit : Statement .retryLimit := by
  rintro - a ⟨⟩

theorem burstError : Statement .burstError := by
  rintro - a ⟨⟩

theorem drainEnd : Statement .drainEnd := by
  rintro - a ⟨⟩

theorem finalizationEnd : Statement .finalizationEnd := by
  rintro - a ⟨⟩

theorem faultReport : Statement .faultReport := by
  rintro - a ⟨⟩

theorem cutEnd : Statement .cutEnd := by
  rintro - a ⟨⟩

theorem transferStart : Statement .transferStart := by
  rintro - a ⟨⟩

end Sys2Proof.Laws.AccessWidth
end

