-- ==== Sys2Proof/Laws/Requests.lean ====
section
/-! SUPPORT. What each shared test of the Dispatcher's takes decides: the take itself, the allocation, the handle of a
byte, the field checks, and the checks of a FRAGMENT, of a control request and of an EXPORT. -/

namespace Sys2Proof.Machine

/-- R89, R90: a request offered is taken: it leaves the Post Queue and its outcome is settled. -/
theorem dispatchTake_offers (kind : Byte → Bool) (request : SlotId → State → State) (s : State) (k : Byte) (n : SlotId)
    (rest : List SlotId) (h : s.offers k n rest) (hk : kind k = true) :
    dispatchTake kind request s = .next (request n { s with rss.postQueue := rest }) := by
  obtain ⟨a, b, c, d⟩ := h
  simp [dispatchTake, a, b, c, d, hk]

/-- R89: nothing is taken outside RUN, with dispatch-enable at 0, or from an empty Post Queue. -/
theorem dispatchTake_closed (kind : Byte → Bool) (request : SlotId → State → State) (s : State)
    (h : s.ec.engine ≠ .run ∨ s.ec.dispatchEnable = false ∨ s.rss.postQueue = []) :
    dispatchTake kind request s = .next s := by
  unfold dispatchTake
  rcases h with h | h | h
  · simp [h]
  · simp [h]
  · split <;> simp [h]

/-- R12: the lowest-numbered stream FREE handle is the one allocated. -/
theorem lowestFree_of_lowestFreeIs (s : State) (h : Handle) (hl : s.lowestFreeIs h) : s.lowestFree = some h := by
  unfold State.lowestFree
  rw [List.find?_eq_some_iff_append]
  refine ⟨by simpa using hl.1, (List.finRange 64).take h, (List.finRange 64).drop (h + 1), ?_, ?_⟩
  · conv_lhs => rw [← List.take_append_drop h.val (List.finRange 64)]
    congr 1
    rw [List.drop_eq_getElem_cons (by simp)]
    simp
  · intro a ha
    have : a < h := by
      obtain ⟨i, hi, rfl⟩ := List.mem_iff_getElem.1 ha
      simp at hi
      simp [Fin.lt_def]; omega
    simpa using hl.2 a this

/-- R12: with no context stream FREE there is no handle to allocate. -/
theorem lowestFree_of_noneFree (s : State) (hl : s.noneFree) : s.lowestFree = none := by
  unfold State.lowestFree
  rw [List.find?_eq_none]
  intro a _; simpa using hl a

/-- R14: a byte below 64 names that handle. -/
theorem handleOfByte_eq_some (b : Byte) (h : Handle) (e : b.toNat = h.val) : handleOfByte b = some h := by
  have := h.isLt
  simp [handleOfByte, e]

/-- R14: a byte of 64 or more names no handle. -/
theorem handleOfByte_eq_none (b : Byte) (e : 64 ≤ b.toNat) : handleOfByte b = none := by
  simp [handleOfByte]; omega

/-- R14: the handle named has the byte's number. -/
theorem handleOfByte_toNat (b : Byte) (h : Handle) (e : handleOfByte b = some h) : b.toNat = h.val := by
  unfold handleOfByte at e; split at e <;> simp_all; rw [← e]

/-- R14: a request that names a stream passes the naming check. -/
theorem nameRefusal_of_names (s : State) (n : SlotId) (h : Handle) (hn : s.names n h) :
    s.nameRefusal h (s.generationByte n) = none := by
  simp [State.nameRefusal, hn.2.1, hn.2.2]

/-- R24: the field checks of an OPEN. -/
theorem openFieldsValid_iff (s : State) (n : SlotId) : openFieldsValid s n = true ↔ s.openFieldsPass n := by
  unfold openFieldsValid State.openFieldsPass
  simp only [Bool.and_eq_true, decide_eq_true_eq, Bool.or_eq_true, beq_iff_eq, Option.isSome_iff_ne_none, and_assoc]
  simp only [show Config.maxHoldLimit = 16 from rfl, show Config.maxPosition = 2 ^ 48 from rfl]
  cases s.endPresentFlag n <;> simp

/-- R31: a FRAGMENT whose fields pass names the handle of its byte. -/
theorem fragmentFields_eq_some (s : State) (n : SlotId) (h : Handle) (hf : s.fragmentFieldsPass n)
    (e : (s.handleByte n).toNat = h.val) : fragmentFields s n = some h := by
  obtain ⟨a, b, c, d, _⟩ := hf
  unfold fragmentFields
  rw [if_neg, handleOfByte_eq_some _ _ e]
  simp only [Config.maxLength, Config.maxPosition]
  rintro (h | h | h | h)
  · omega
  · omega
  · omega
  · exact h d

/-- R31: a FRAGMENT whose fields do not pass names none. -/
theorem fragmentFields_eq_none (s : State) (n : SlotId) (hf : ¬ s.fragmentFieldsPass n) :
    fragmentFields s n = none := by
  unfold fragmentFields
  split
  · rfl
  · rename_i hc
    push Not at hc
    apply handleOfByte_eq_none
    by_contra h64
    exact hf ⟨by omega, hc.2.1, hc.2.2.1, hc.2.2.2, by omega⟩

/-- R35: the check of LAST. -/
theorem endConflicts_iff (s : State) (n : SlotId) (c : StreamContext) :
    endConflicts s n c = true ↔ ¬ s.lastAgrees n c := by
  unfold endConflicts State.lastAgrees
  cases s.lastFlag n <;> cases hd : c.declaredEnd <;> simp

/-- R36: the check against the held fragments. -/
theorem any_rangesOverlap_iff (s : State) (n : SlotId) (c : StreamContext) :
    c.holdList.any (rangesOverlap s n) = true ↔ ¬ s.clearOfHeld n c := by
  unfold State.clearOfHeld
  simp only [rangesOverlap, List.any_eq_true, Bool.and_eq_true, decide_eq_true_eq, not_forall, not_or, Nat.not_le]
  constructor
  · rintro ⟨x, a, b, c⟩; exact ⟨x, a, c, b⟩
  · rintro ⟨x, a, b, c⟩; exact ⟨x, a, c, b⟩

/-- R30, R42: what is left of the checks of a FRAGMENT that passes checks 1 to 7. -/
theorem fragmentVerdict_of_fits (s : State) (n : SlotId) (h : Handle) (hf : s.fragmentFieldsPass n)
    (hn : s.names n h) (hx : s.fragmentFits n (s.stream h)) :
    fragmentVerdict s n =
      if s.position n = (s.stream h).frontier then .inOrder h
      else if (s.stream h).holdList.length = (s.stream h).holdLimit ∨ s.ou.heldCount = Config.holdCap then
        .refused .holdFull (some h)
      else .held h := by
  have hff := fragmentFields_eq_some s n h hf (handleOfByte_toNat _ _ hn.1)
  have hnr := nameRefusal_of_names s n h hn
  obtain ⟨hs, h3, h4, h5, h6⟩ := hx
  have hs' : ¬ ((s.stream h).state ≠ .opened ∧ (s.stream h).state ≠ .ending) := by
    rintro ⟨a, b⟩
    rcases hs with hs | hs
    · exact a hs
    · exact b hs
  simp only [fragmentVerdict, hff, hnr]
  rw [if_neg hs', if_neg (by exact Nat.not_lt.2 h3),
    if_neg (by cases hd : (s.stream h).declaredEnd <;> simp; exact h4 _ hd),
    if_neg (fun hh => ((endConflicts_iff s n _).1 hh) h5), if_neg (fun hh => ((any_rangesOverlap_iff s n _).1 hh) h6)]

/-- R66: the fields of a control request pass. -/
theorem controlFields_eq_some (s : State) (n : SlotId) (h : Handle) (hf : s.flagBits n = 0)
    (e : (s.handleByte n).toNat = h.val) : controlFields s n = some h := by
  simp [controlFields, hf, handleOfByte_eq_some _ _ e]

/-- R66: the fields of a control request do not pass. -/
theorem controlFields_eq_none (s : State) (n : SlotId) (h : 64 ≤ (s.handleByte n).toNat ∨ s.flagBits n ≠ 0) :
    controlFields s n = none := by
  unfold controlFields
  split
  · rfl
  · rcases h with h | h
    · exact handleOfByte_eq_none _ h
    · contradiction

end Sys2Proof.Machine
end

