-- ==== Sys2Proof/Tests/Slice0.lean ====
section
/-! SUPPORT. Our own tests: ill-formed commands are refused by WellFormed; one-step tests whose expected values are the
spec's own examples; and, for every statement with hypotheses, a theorem `witness_<Name>` that shows states and operands
that meet the hypotheses of each of its clauses. -/

namespace Sys2Proof.Tests

open Sys2Proof Sys2Proof.Machine

/-! ### Commands that are not well formed -/

theorem test_dispatch_with_clear_is_ill_formed : (Instr.dispatch 2).wellFormed = false := by decide
theorem test_engineClear_without_clear_is_ill_formed : (Instr.engineClear 1).wellFormed = false := by decide
theorem test_cqCauseClear_without_cq_is_ill_formed : (Instr.cqCauseClear 6).wellFormed = false := by decide
theorem test_protoCauseClear_with_cq_is_ill_formed : (Instr.protoCauseClear 3).wellFormed = false := by decide
theorem test_readyCauseClear_with_proto_is_ill_formed : (Instr.readyCauseClear 6).wellFormed = false := by decide
theorem test_protoErrClear_without_bit31_is_ill_formed : (Instr.protoErrClear 0x7FFFFFFF).wellFormed = false := by
  decide
theorem test_badWidth_of_whole_word_is_ill_formed : (Instr.badWidth .read .word 0x020).wellFormed = false := by decide
theorem test_badAddress_of_register_is_ill_formed : (Instr.badAddress .read 0x020).wellFormed = false := by decide
theorem test_badAddress_of_narrow_access_is_ill_formed : (Instr.badAddress .read 0x055).wellFormed = false := by decide
theorem test_readOnly_of_writable_register_is_ill_formed : (Instr.readOnly 0x028).wellFormed = false := by decide

/-! ### States to test on -/

/-- The engine in RUN right after the start-up sweep. -/
def running : State :=
  { State.reset with ec.engine := .run, ec.resetPin := false, hbi.readyCause := true }

/-- The words of a request, packed as R196 gives. -/
def requestWords (kind flags handle generation : Byte) (position length : Nat) (address : Word)
    (algorithm holdLimit : Byte) : Vector Word 8 :=
  #v[packWord kind flags handle generation, 0x1008, lowerWord position, upperWord position, BitVec.ofNat 32 length,
    address, packWord algorithm holdLimit 0 0, 0]

/-- The state with a request in slot 0 at the head of the Post Queue. -/
def posting (words : Vector Word 8) (s : State) : State :=
  { s with rss := {
      words := s.rss.words.set 0 words
      states := s.rss.states.set 0 .posted
      freeQueue := (List.finRange 48).drop 1
      postQueue := [0] } }

/-- A stream in OPEN of generation 1 with room to hold. -/
def openedContext : StreamContext :=
  { freeContext 1 with state := .opened, algorithm := some .d256, holdLimit := 4, gapTimeout := 5 }

/-- The state with stream 3 in the context given. -/
def withThree (c : StreamContext) (s : State) : State := { s with ou.streams := s.ou.streams.set 3 c }

/-- The state with a FRAGMENT of stream 3 held in slot 1, at offset 64 and of length 16. -/
def holding (c : StreamContext) (s : State) : State :=
  { s with
    rss.words := s.rss.words.set 1 (requestWords 2 0 3 1 64 16 0 0 0)
    rss.states := s.rss.states.set 1 .held
    ou := { streams := s.ou.streams.set 3 { c with holdList := [1] }, heldCount := 1 } }

/-- A FRAGMENT of stream 3 in slot 5, active. -/
def activeItem : ActiveItem :=
  { slot := 5, stream := 3, kind := .fragment, nextAddress := 0x20000030, toFetch := 200, toDrain := 0,
    retryCount := 0, cut := false, failure := none }

/-- The state with an active item. -/
def acting (item : ActiveItem) (s : State) : State :=
  { s with ap.active := some item, rss.states := s.rss.states.set 5 .active }

/-- A burst of the Fetch Engine. -/
def fetchBurst : Burst :=
  { requester := .fetch, direction := .read, address := 0x20000030, length := 16, data := [] }

/-- A transfer of stream 3 in slot 6. -/
def transfer (kind : TransferKind) (burst retries : Nat) : ActiveTransfer :=
  { transfer := { slot := 6, stream := 3, kind := kind }, burst := burst, retryCount := retries }

/-- A burst of the CTU. -/
def ctuBurst : Burst :=
  { requester := .ctu, direction := .read, address := 0x40, length := 64, data := [] }

/-- A record that names no stream. -/
def someRecord : Record := { tag := 7, status := .badRequest, kind := 9, slot := 8, stream := none }

/-- A next state is answered, and it has the property. -/
def answers (r : Result) (p : State → Bool) : Bool :=
  match r with
  | .next t => p t
  | _ => false

/-! ### One-step tests, with the spec's own values -/

/-- R190, R201: STATUS reads 0x184 in INIT and 0x185 in RUN with everything at rest. -/
theorem test_status_in_init_and_run :
    readRegister State.reset .status = 0x184 ∧ readRegister running .status = 0x185 := by decide

/-- R82: the first CLAIM after reset returns slot 0 and leaves 47 slots free. -/
theorem test_claim_takes_slot_0 :
    answers (exec .claim running) (fun t => t.hbi.readData = 0 ∧ t.slotState 0 = .claimed ∧
      t.rss.freeQueue.length = 47) = true := by decide

/-- R179: a byte read of an unmapped offset is BAD_WIDTH, its offset rounded down; READY and PROTO are then set. -/
theorem test_narrow_access_is_captured :
    answers (exec (.badWidth .read .byte 0x057) running) (fun t =>
      t.hbi.capture = some { cause := .badWidth, offset := 0x054 } ∧ t.intStatus = 6) = true := by decide

/-- 10.3, "A record, word by word". -/
theorem test_record_words :
    let r : Record := {
      tag := 5, status := .okFinal, kind := 2, slot := 22
      stream := some { state := .final, handle := 9, generation := 4, absorbed := 4296 } }
    (r.word 1, r.word 2, r.word 3) = (0x03160201, 0x00000409, 0x000010C8) := by decide

/-- 10.5, "A snapshot, word by word". -/
theorem test_stream_info_words :
    let c : StreamContext := { freeContext 2 with
      state := .faulted, faultCode := some .gapTimeout, algorithm := some .d256, inFlight := 1, frontier := 6144,
      absorbed := 4608 }
    streamInfoWords c = #v[0x30000600, 0x00001200, 0x20020000, 0x00000001] := by decide

/-- 10.4, "A check word worked out". -/
theorem test_check_word :
    let c : StreamContext := { freeContext 5 with
      state := .exporting, algorithm := some .d256, holdLimit := 10, gapTimeout := 20, absorbed := 67,
      residue := [0x11, 0x22, 0x33] }
    (contextWord c 1, contextWord c 2, contextWord c 24, checkWord (contextWord c)) =
      (0x00030A01, 0x00050014, 0x00332211, 0xA889D7B9) := by decide

/-- 5.2: the first burst of 200 bytes at 0x20000030 is of 16 bytes, the last of 56. -/
theorem test_burst_plan :
    activeItem.burstLength = 16 ∧
    ({ activeItem with nextAddress := 0x20000040, toFetch := 184 } : ActiveItem).burstLength = 64 ∧
    ({ activeItem with nextAddress := 0x200000C0, toFetch := 56 } : ActiveItem).burstLength = 56 := by decide

/-- "Finishing a D256 stream": the padding of a D256 message of 4296 bytes. -/
theorem test_padding :
    padding .d256 4296 = 0x80#8 :: List.replicate 47 0 ++ [0, 0, 0, 0, 0, 0, 0x86, 0x40] := by decide

/-- R112, R113: an ERROR to the burst on the bus is recorded in the active item. -/
theorem test_burst_error_is_recorded :
    answers (exec .burstError { acting activeItem running with bma.burst := some fetchBurst })
      (fun t => t.bma.burst = none ∧ t.ap.active.map (·.failure) = some (some .busError)) = true := by decide

/-- R186, R187: a CLEAR in RUN enters CLEARING; STATUS then shows code 2. -/
theorem test_clear_enters_clearing :
    answers (exec (.engineClear 3) running) (fun t => readRegister t .status = 0x186) = true := by decide

/-- R25, R12, R13: the first OPEN after reset takes handle 0 under generation 1 and ends OK. -/
theorem test_open_takes_handle_0 :
    answers (exec .openRequest (posting (requestWords 1 0 0 0 0 0 0 1 4) running)) (fun t =>
      t.records.map (fun r => (r.status, r.stream)) =
        [(.ok, some { state := .opened, handle := 0, generation := 1, absorbed := 0 })]) = true := by decide

/-- R33: a FRAGMENT below the frontier is OVERLAP. -/
theorem test_fragment_below_frontier_overlaps :
    answers (exec .fragmentRequest
        (posting (requestWords 2 0 3 1 99 1 0 0 0) (withThree { openedContext with frontier := 100 } running)))
      (fun t => t.records.map (·.status) = [.overlap]) = true := by decide

/-! ### Witnesses -/

theorem witness_StepTakesFrontCommand :
    ({ running with pending := [.tick] } : State).pending = .tick :: [] ∧ running.pending = [] := by decide

theorem witness_WindowCommandDecodesBack :
    (Instr.slotWordWrite 47 7 1).wellFormed = true ∧
    accessOf (.slotWordWrite 47 7 1) = some { direction := .write, size := .word, offset := 0x9FC, data := 1 } := by
  decide

theorem witness_NarrowAccessIsRefused :
    running.ec.resetPin = false ∧
    (let a : Access := { direction := .read, size := .half, offset := 0xFFC, data := 0 }
     a.size ≠ .word ∨ a.offset.toNat % 4 ≠ 0) ∧
    (let a : Access := { direction := .read, size := .word, offset := 0x021, data := 0 }
     a.size ≠ .word ∨ a.offset.toNat % 4 ≠ 0) := by decide

/-- The ends of the four unmapped ranges, and the registers next to them. -/
theorem witness_UnmappedAccessIsRefused :
    (∀ o ∈ [0x054, 0x05C, 0x068, 0x07C, 0x0C0, 0x3FC, 0xA00, 0xFFC],
      (BitVec.ofNat 12 o).toNat % 4 = 0 ∧ registerAt (BitVec.ofNat 12 o) = none) ∧
    (∀ o ∈ [0x050, 0x060, 0x064, 0x080, 0x0BC, 0x400, 0x9FC], registerAt (BitVec.ofNat 12 o) ≠ none) ∧
    running.ec.resetPin = false := by decide

theorem witness_ReadOnlyWriteIsRefused :
    State.reset.ec.resetPin = true ∧ running.ec.resetPin = false ∧
    ∃ r : Register, r = .digest 15 ∧ offsetOf r = 0x0BC := by
  exact ⟨by decide, by decide, .digest 15, rfl, by decide⟩

theorem witness_CaptureKeepsFirstError :
    running.ec.resetPin = false ∧ running.hbi.capture = none ∧
    ({ running with hbi.capture := some { cause := .badSlot, offset := 0x024 } } : State).hbi.capture =
      some { cause := .badSlot, offset := 0x024 } ∧
    (0x80000000 : Word).getLsbD 31 = true ∧ (0x7FFFFFFF : Word).getLsbD 31 = false := by decide

/-- One refused access of each cause, at the ends of its range. -/
theorem witness_CaptureKeepsFirstError_causes :
    RefusedWith running (.badWidth .read .word 0xFFF) .badWidth 0xFFC ∧
    RefusedWith running (.badAddress .write 0x054) .badAddress 0x054 ∧
    RefusedWith running (.readOnly (offsetOf .status)) .readOnly (offsetOf .status) ∧
    RefusedWith running (.slotWordWrite 47 7 1) .slotNotClaimed (offsetOf (.slotWord 47 7)) ∧
    RefusedWith running (.post 47) .slotNotClaimed 0x028 ∧
    RefusedWith running (.returnSlot 48) .badSlot 0x024 ∧
    RefusedWith running (.cqPop 0) .cqEmptyPop 0x02C :=
  ⟨.badWidth _ _ _ (by decide), .badAddress _ _ (by decide) (by decide), .readOnly _ (by decide),
   .slotWord _ _ _ (by decide) (by decide), .notClaimed _ _ 47 47 (by decide) (by decide) (by decide) (by decide),
   .badSlot _ _ 48 (by decide) (by decide) (by decide), .emptyPop _ (by decide) (by decide)⟩

/-- The engine states and the pin agree in the states tested on. -/
theorem witness_consistent : running.ec.consistent ∧ State.reset.ec.consistent := by
  unfold EngineControl.consistent; decide

theorem witness_ClaimTakesHeadOfFreeQueue :
    running.ec.engine = .run ∧ running.rss.freeQueue = 0 :: (List.finRange 48).drop 1 ∧
    ({ running with rss.freeQueue := [] } : State).rss.freeQueue = [] ∧ State.reset.ec.engine ≠ .run ∧
    AccessSize.half ≠ .word := by decide

theorem witness_ReturnGivesSlotBack :
    running.ec.engine = .run ∧ 48 ≤ (48 : Word).toNat ∧ (47 : Word).toNat = (47 : SlotId).val ∧
    running.slotState 47 ≠ .claimed ∧ (running.setSlot 47 .claimed).slotState 47 = .claimed ∧
    State.reset.ec.engine ≠ .run := by decide

theorem witness_PostHandsSlotOver :
    running.ec.engine = .run ∧ 48 ≤ (0xFFFFFFFF : Word).toNat ∧ (0 : Word).toNat = (0 : SlotId).val ∧
    running.slotState 0 ≠ .claimed ∧ (running.setSlot 0 .claimed).slotState 0 = .claimed ∧
    State.reset.ec.engine ≠ .run := by decide

theorem witness_SlotWordWriteNeedsClaim :
    running.ec.engine = .run ∧ (running.setSlot 47 .claimed).slotState 47 = .claimed ∧
    (running.setSlot 47 .posted).slotState 47 ≠ .claimed ∧ State.reset.ec.engine ≠ .run ∧
    AccessSize.byte ≠ .word := by decide

/-- A full Completion Queue with one ending in the Backlog. -/
def backlogged : State :=
  { running with
    cu := { running.cu with
      queue := List.replicate 64 someRecord, backlog := [{ slot := 8, record := someRecord }], cqCause := true } }

theorem witness_PopRefillsFromBacklog :
    running.ec.engine = .run ∧ running.cu.queue = [] ∧
    (let s := { running with cu.queue := [someRecord] }
     s.cu.queue = someRecord :: [] ∧ s.cu.backlog = []) ∧
    backlogged.cu.queue = someRecord :: List.replicate 63 someRecord ∧
    backlogged.cu.backlog = { slot := 8, record := someRecord } :: [] ∧ State.reset.ec.engine ≠ .run := by decide

theorem witness_PopRefillsFromBacklog_bounded : backlogged.cu.bounded ∧ backlogged.ec.consistent := by
  refine ⟨⟨by decide, by decide, by decide, by decide, ?_⟩, by unfold EngineControl.consistent; decide⟩
  intro n h; cases h

/-- T of 0, 1, 64 and 65. -/
theorem witness_ConfigurationWritesTakeTheirFields :
    running.ec.resetPin = false ∧ ((0xFFFF0000 : Word).extractLsb' 0 8).toNat = 0 ∧
    ((1 : Word).extractLsb' 0 8).toNat = 1 ∧ ((64 : Word).extractLsb' 0 8).toNat = 64 ∧
    64 < ((65 : Word).extractLsb' 0 8).toNat := by decide

theorem witness_InterruptCausesAndLine :
    running.ec.resetPin = false ∧ Instr.protoCauseClear 7 = .protoCauseClear 7 := by decide

theorem witness_CoalescingTimerRaisesCq :
    (let s := { running with ec.prescaler := 1, cu.timer := some 1 }
     s.ec.engine = .run ∧ s.ec.prescaler ≠ 0 ∧ s.cu.timer = some 1) ∧
    State.reset.ec.engine ≠ .run ∧ running.ec.prescaler = 0 ∧
    ({ running with cu.timer := some 2 } : State).cu.timer ≠ some 1 := by decide

theorem witness_HeadRecordAndStatusArePacked :
    (let s := { running with cu.queue := [someRecord] }
     s.ec.engine = .run ∧ s.cu.queue = someRecord :: [] ∧ someRecord.stream = none) ∧
    (let r : Record := { someRecord with stream := some { state := .final, handle := 63, generation := 255, absorbed := 2 ^ 48 } }
     let s := { running with cu.queue := [r] }
     s.cu.queue = r :: [] ∧
     r.stream = some { state := .final, handle := 63, generation := 255, absorbed := 2 ^ 48 }) ∧
    State.reset.ec.engine ≠ .run ∧ running.cu.queue = [] := by decide

theorem witness_StreamSelectCapturesContext :
    running.ec.resetPin = false ∧ 64 ≤ (64 : Word).toNat ∧ (63 : Word).toNat = (63 : Handle).val := by decide

theorem witness_DigestSelectCapturesDigest :
    running.ec.resetPin = false ∧ (∀ h : Handle, (64 : Word).toNat = h.val → (running.stream h).state ≠ .final) ∧
    (∀ h : Handle, (3 : Word).toNat = h.val → (running.stream h).state ≠ .final) ∧
    (let s := withThree { freeContext 1 with state := .final, digest := some (List.replicate 32 0xAB) } running
     (3 : Word).toNat = (3 : Handle).val ∧ (s.stream 3).state = .final ∧
     (s.stream 3).digest = some (List.replicate 32 0xAB)) := by decide

theorem witness_ResetAssertGivesPowerOnValues :
    accessOf .claim = some { direction := .read, size := .word, offset := 0x020, data := 0 } ∧
    State.reset.ec.resetPin = true := by decide

theorem witness_StartUpEntersRun :
    (let s := { State.reset with ec.resetPin := false }
     s.ec.engine = .init ∧ s.ec.resetPin = false) ∧
    running.ec.engine ≠ .init ∧ State.reset.ec.resetPin = true := by decide

theorem witness_ControlWriteSetsDispatchAndClears :
    running.ec.resetPin = false ∧ (1 : Word).getLsbD 1 = false ∧ (2 : Word).getLsbD 1 = true ∧
    ({ State.reset with ec.resetPin := false } : State).ec.engine ≠ .run ∧ running.ec.engine = .run := by decide

/-- CLEARING, with no block swept yet. -/
def clearing : State := { running with ec.engine := .clearing }

theorem witness_SweepsResetTheirBlocks :
    clearing.ec.engine = .clearing ∧ clearing.bma.burst = none ∧ clearing.ec.swept.rss = false ∧
    clearing.ec.swept.streamTable = false ∧ clearing.ec.swept.absorbPath = false ∧
    clearing.ec.swept.ctu = false ∧ clearing.ec.swept.cu = false ∧
    (let swept : Swept := { rss := true, streamTable := true, absorbPath := true, ctu := true, cu := true }
     ({ clearing with ec.swept := swept } : State).ec.swept = swept) := by decide

theorem witness_ClearOutcomeIsOrderFree :
    running.ec.resetPin = false ∧ running.ec.engine = .run ∧ running.bma.burst = none ∧ (2 : Word).getLsbD 1 = true ∧
    List.Perm [Instr.sweepCu, .sweepCtu, .sweepAbsorbPath, .sweepStreamTable, .sweepRss]
      [.sweepRss, .sweepStreamTable, .sweepAbsorbPath, .sweepCtu, .sweepCu] := by decide

/-- What holds of the value of an option, in a form that `decide` evaluates. -/
theorem forall_some_iff {α : Type} {o : Option α} {p : α → Prop} : (∀ e, o = some e → p e) ↔ ∀ e ∈ o.toList, p e := by
  cases o <;> simp

/-- A running timebase with stream 3's gap timer at `n` ticks left. -/
def ticking (n : Nat) : State :=
  { withThree { openedContext with gapTimer := some n } running with ec.prescaler := 1 }

set_option maxRecDepth 4000 in
theorem witness_TickReachesEveryTimer :
    State.reset.ec.engine ≠ .run ∧ running.ec.prescaler = 0 ∧
    (∀ h : Handle, ∀ n ∈ ((ticking 2).stream h).gapTimer, 2 ≤ n) ∧
    (ticking 1).ec.engine = .run ∧ (ticking 1).ec.prescaler ≠ 0 ∧ (ticking 1).ec.dispatchEnable = true ∧
    ({ ticking 1 with ec.dispatchEnable := false } : State).ec.dispatchEnable = false ∧
    ((ticking 1).stream 2).gapTimer = none ∧ ((ticking 2).stream 3).gapTimer = some 2 ∧
    ((ticking 1).stream 3).gapTimer = some 1 := by decide

theorem witness_GapTimerExpiryFaultsStream :
    (ticking 1).ec.engine = .run ∧ (ticking 1).ec.prescaler ≠ 0 ∧ (ticking 1).ec.dispatchEnable = true ∧
    ((ticking 1).stream 3).gapTimer = some 1 ∧ (ticking 1).ap.active = none ∧
    (let s := acting activeItem (ticking 1)
     s.ap.active = some activeItem ∧ activeItem.stream = 3 ∧ s.dc.mode ≠ .finalizing) := by decide

theorem witness_UnknownKindIsBadRequest :
    State.reset.ec.engine ≠ .run ∧ running.rss.postQueue = [] ∧
    ({ running with ec.dispatchEnable := false } : State).ec.dispatchEnable = false ∧
    Instr.unknownKind ∈ [Instr.openRequest, .fragmentRequest, .abortRequest, .releaseRequest, .exportRequest,
      .importRequest, .unknownKind] ∧
    (posting (requestWords 0 0 0 0 0 0 0 0 0) running).offers 0 0 [] ∧
    (posting (requestWords 7 0 0 0 0 0 0 0 0) running).offers 7 0 [] ∧ 6 < (7 : Byte).toNat := by
  unfold State.offers; decide

/-- An OPEN with hold limit 16, which is the most there is, and of no declared end, or one of `position`. -/
def openWords (flags : Byte) (position : Nat) : Vector Word 8 := requestWords 1 flags 0 0 position 0 0 2 16

/-- Every stream allocated. -/
def full : State := { running with ou.streams := Vector.replicate 64 openedContext }

set_option maxRecDepth 4000 in
theorem witness_OpenIsCheckedAndAllocated :
    (posting (requestWords 1 0 0 0 0 0 0 1 17) running).offers 1 0 [] ∧
    ¬ (posting (requestWords 1 0 0 0 0 0 0 1 17) running).openFieldsPass 0 ∧
    (posting (openWords 0 0) full).offers 1 0 [] ∧ (posting (openWords 0 0) full).openFieldsPass 0 ∧
    (posting (openWords 0 0) full).noneFree ∧
    (∀ s ∈ [posting (openWords 0 0) running, posting (openWords 2 (2 ^ 48)) running, posting (openWords 2 0) running],
      s.offers 1 0 [] ∧ s.openFieldsPass 0 ∧ s.requestAlgorithm 0 = some .d512 ∧ s.lowestFreeIs 0) ∧
    (posting (openWords 0 0) running).endPresentFlag 0 = false ∧
    (posting (openWords 2 1) running).endPresentFlag 0 = true ∧ 0 < (posting (openWords 2 1) running).position 0 ∧
    (posting (openWords 2 0) running).position 0 = 0 := by
  unfold State.offers State.openFieldsPass State.noneFree State.lowestFreeIs; decide

/-- A FRAGMENT in slot 0 for stream 3 in the context given, with slot 1 held by it. -/
def fragmentState (c : StreamContext) (flags generation : Byte) (position length : Nat) : State :=
  posting (requestWords 2 flags 3 generation position length 0x20000030 0 0) (holding c running)

theorem witness_FragmentIsRefused_names :
    (fragmentState openedContext 0 1 0 0).offers 2 0 [] ∧
    ¬ (fragmentState openedContext 0 1 0 0).fragmentFieldsPass 0 ∧
    ¬ (fragmentState openedContext 0 1 0 1048577).fragmentFieldsPass 0 ∧
    (fragmentState (freeContext 0) 0 1 0 64).fragmentFieldsPass 0 ∧
    ((fragmentState (freeContext 0) 0 1 0 64).handleByte 0).toNat = (3 : Handle).val ∧
    ((fragmentState (freeContext 0) 0 1 0 64).stream 3).state = .free ∧
    ((fragmentState openedContext 0 2 0 64).stream 3).state ≠ .free ∧
    ((fragmentState openedContext 0 2 0 64).stream 3).generation ≠
      (fragmentState openedContext 0 2 0 64).generationByte 0 ∧
    (fragmentState { openedContext with state := .final } 0 1 0 64).names 0 3 ∧
    (let s := fragmentState { openedContext with state := .final } 0 1 0 64
     (s.stream 3).state ≠ .opened ∧ (s.stream 3).state ≠ .ending) := by
  unfold State.offers State.fragmentFieldsPass State.names; decide

/-- The later checks: OVERLAP below the frontier, BEYOND_END by one byte, END_CONFLICT, OVERLAP with the held fragment,
and HOLD_FULL by each limit. -/
theorem witness_FragmentIsRefused_ranges :
    (let s := fragmentState { openedContext with frontier := 10 } 0 1 9 1
     s.names 0 3 ∧ (s.stream 3).state = .opened ∧ s.position 0 < (s.stream 3).frontier) ∧
    (let s := fragmentState { openedContext with declaredEnd := some 100 } 0 1 1 100
     s.names 0 3 ∧ (s.stream 3).frontier ≤ s.position 0 ∧ (s.stream 3).declaredEnd = some 100 ∧
       100 < s.fragmentEnd 0) ∧
    (let s := fragmentState openedContext 1 1 0 79
     s.names 0 3 ∧ (s.stream 3).declaredEnd = none ∧ ¬ s.lastAgrees 0 (s.stream 3)) ∧
    (let s := fragmentState openedContext 0 1 0 65
     s.names 0 3 ∧ s.lastAgrees 0 (s.stream 3) ∧ ¬ s.clearOfHeld 0 (s.stream 3)) ∧
    (let s := fragmentState { openedContext with holdLimit := 1 } 0 1 80 1
     s.names 0 3 ∧ s.lastAgrees 0 (s.stream 3) ∧ s.clearOfHeld 0 (s.stream 3) ∧
       (s.stream 3).frontier < s.position 0 ∧ (s.stream 3).holdList.length = (s.stream 3).holdLimit) ∧
    (let s := fragmentState openedContext 0 1 80 1
     ({ s with ou.heldCount := 40 } : State).ou.heldCount = 40 ∧ (s.stream 3).frontier < s.position 0) := by
  refine ⟨?_, ?_, ?_, ?_, ?_, ?_⟩ <;>
    simp only [State.names, State.lastAgrees, State.clearOfHeld, forall_some_iff] <;> decide

/-- A FRAGMENT of 64 bytes at the frontier reaches the held one, which is promoted with it. -/
theorem witness_FragmentInOrderIsAccepted :
    let s := fragmentState openedContext 0 1 0 64
    s.offers 2 0 [] ∧ s.fragmentFieldsPass 0 ∧ s.names 0 3 ∧ s.fragmentFits 0 (s.stream 3) ∧
    s.position 0 = (s.stream 3).frontier ∧ (s.stream 3).holdList = [1] ++ [] ∧
    s.contiguous (s.fragmentEnd 0) 80 [1] ∧ (∀ m ∈ ([] : List SlotId).head?, s.position m ≠ 80) := by
  refine ⟨?_, ?_, ?_, ?_, ?_, ?_, ?_, ?_⟩ <;>
    (try simp only [State.offers, State.fragmentFieldsPass, State.names, State.fragmentFits, State.lastAgrees,
      State.clearOfHeld, State.contiguous, Option.mem_def, forall_some_iff]) <;>
    decide

/-- A FRAGMENT that ends where the held one begins goes before it. -/
theorem witness_EarlyFragmentIsHeld :
    let s := fragmentState openedContext 0 1 1 63
    s.offers 2 0 [] ∧ s.fragmentFieldsPass 0 ∧ s.names 0 3 ∧ s.fragmentFits 0 (s.stream 3) ∧
    (s.stream 3).frontier < s.position 0 ∧ (s.stream 3).holdList.length ≠ (s.stream 3).holdLimit ∧
    s.ou.heldCount ≠ 40 ∧ (s.stream 3).holdList = [] ++ [1] ∧
    (∀ m ∈ ([] : List SlotId), s.position m ≤ s.position 0) ∧
    (∀ m ∈ ([1] : List SlotId).head?, s.position 0 < s.position m) := by
  refine ⟨?_, ?_, ?_, ?_, ?_, ?_, ?_, ?_, ?_, ?_⟩ <;>
    (try simp only [State.offers, State.fragmentFieldsPass, State.names, State.fragmentFits, State.lastAgrees,
      State.clearOfHeld, Option.mem_def, forall_some_iff]) <;>
    decide

set_option maxRecDepth 4000 in
theorem witness_TakesKeepHoldListsOrdered :
    (fragmentState openedContext 0 1 0 64).holdsOrdered ∧
    ∃ t, exec .fragmentRequest (fragmentState openedContext 0 1 0 64) = .next t := by
  refine ⟨?_, _, rfl⟩
  simp only [State.holdsOrdered, holdOrdered, forall_some_iff]
  decide

/-- An ABORT, a RELEASE or an EXPORT of stream 3 in slot 0. -/
def controlState (kind flags handle generation : Byte) (c : StreamContext) : State :=
  posting (requestWords kind flags handle generation 0 0 0 0 0) (withThree c running)

theorem witness_AbortAndReleaseAreRefused :
    (controlState 3 0 64 1 openedContext).offers 3 0 [] ∧
    64 ≤ ((controlState 3 0 64 1 openedContext).handleByte 0).toNat ∧
    (controlState 4 1 3 1 openedContext).offers 4 0 [] ∧ (controlState 4 1 3 1 openedContext).flagBits 0 ≠ 0 ∧
    (let s := controlState 4 0 3 1 (freeContext 1)
     s.flagBits 0 = 0 ∧ (s.handleByte 0).toNat = (3 : Handle).val ∧ (s.stream 3).state = .free) ∧
    (let s := controlState 3 0 3 2 openedContext
     (s.stream 3).state ≠ .free ∧ (s.stream 3).generation ≠ s.generationByte 0) ∧
    (let s := controlState 3 0 3 1 { openedContext with pendingControl := some 9 }
     s.names 0 3 ∧ (s.stream 3).pendingControl ≠ none) ∧
    (let s := controlState 3 0 3 1 { openedContext with state := .exporting }
     s.names 0 3 ∧ (s.stream 3).pendingControl = none ∧ (s.stream 3).state = .exporting) ∧
    (let s := controlState 4 0 3 1 openedContext
     s.names 0 3 ∧ (s.stream 3).pendingControl = none ∧ (s.stream 3).state = .opened) := by
  unfold State.offers State.names; decide

theorem witness_AbortTearsStreamDown :
    let s := controlState 3 0 3 1 openedContext
    let t := acting activeItem s
    s.offers 3 0 [] ∧ s.flagBits 0 = 0 ∧ s.names 0 3 ∧ (s.stream 3).pendingControl = none ∧
    (s.stream 3).state = .opened ∧ s.ap.active = none ∧
    t.offers 3 0 [] ∧ t.names 0 3 ∧ t.ap.active = some activeItem ∧ activeItem.stream = 3 ∧
    t.dc.mode ≠ .finalizing ∧ ({ t with dc.mode := .finalizing } : State).dc.mode = .finalizing := by
  unfold State.offers State.names; decide

theorem witness_ReleaseFreesFinishedStream :
    (let s := controlState 4 0 3 1 { openedContext with state := .final }
     s.offers 4 0 [] ∧ s.flagBits 0 = 0 ∧ s.names 0 3 ∧ (s.stream 3).pendingControl = none ∧
       (s.stream 3).state = .final) ∧
    (let s := controlState 3 0 3 1 { openedContext with state := .faulted, inFlight := 0 }
     s.offers 3 0 [] ∧ s.names 0 3 ∧ (s.stream 3).state = .faulted ∧ (s.stream 3).inFlight = 0) ∧
    (let s := controlState 4 0 3 1 { openedContext with state := .faulted, inFlight := 1 }
     s.offers 4 0 [] ∧ s.names 0 3 ∧ (s.stream 3).state = .faulted ∧ 0 < (s.stream 3).inFlight) := by
  unfold State.offers State.names; decide

theorem witness_ExportIsCheckedAndQueued :
    (controlState 5 0 64 1 openedContext).offers 5 0 [] ∧
    64 ≤ ((controlState 5 0 64 1 openedContext).handleByte 0).toNat ∧
    ((posting (requestWords 5 0 3 1 0 0 63 0 0) running).hostAddress 0).toNat % 64 ≠ 0 ∧
    (let s := controlState 5 0 3 1 (freeContext 1)
     s.flagBits 0 = 0 ∧ (s.hostAddress 0).toNat % 64 = 0 ∧ (s.handleByte 0).toNat = (3 : Handle).val ∧
       (s.stream 3).state = .free) ∧
    (let s := controlState 5 0 3 2 openedContext
     (s.stream 3).state ≠ .free ∧ (s.stream 3).generation ≠ s.generationByte 0) ∧
    (let s := controlState 5 0 3 1 { openedContext with state := .ending }
     s.names 0 3 ∧ (s.stream 3).state ≠ .opened) ∧
    (let s := controlState 5 0 3 1 { openedContext with inFlight := 1 }
     s.names 0 3 ∧ (s.stream 3).state = .opened ∧ 0 < (s.stream 3).inFlight) ∧
    (let s := controlState 5 0 3 1 openedContext
     s.names 0 3 ∧ (s.stream 3).state = .opened ∧ (s.stream 3).holdList = [] ∧ (s.stream 3).inFlight = 0) := by
  unfold State.offers State.names; decide

set_option maxRecDepth 4000 in
theorem witness_ImportIsCheckedAndQueued :
    (posting (requestWords 6 1 0 0 0 0 0 0 0) running).offers 6 0 [] ∧
    (posting (requestWords 6 1 0 0 0 0 0 0 0) running).flagBits 0 ≠ 0 ∧
    ((posting (requestWords 6 0 0 0 0 0 0x7F 0 0) running).hostAddress 0).toNat % 64 ≠ 0 ∧
    (posting (requestWords 6 0 0 0 0 0 0x40 0 0) full).offers 6 0 [] ∧
    (posting (requestWords 6 0 0 0 0 0 0x40 0 0) full).noneFree ∧
    (let s := posting (requestWords 6 0 0 0 0 0 0x40 0 0) running
     s.offers 6 0 [] ∧ s.flagBits 0 = 0 ∧ (s.hostAddress 0).toNat % 64 = 0 ∧ s.lowestFreeIs 0) := by
  unfold State.offers State.noneFree State.lowestFreeIs; decide

/-- The state with an item of stream 3 in slot 5 at the head of the Ready Queue. -/
def queued (kind : ItemKind) : State :=
  { running with
    rss.words := running.rss.words.set 5 (requestWords 2 0 3 1 0 200 0x20000030 0 0)
    rss.states := running.rss.states.set 5 .ready
    ou.streams := running.ou.streams.set 3 { openedContext with inFlight := 1 }
    ap.readyQueue := [{ slot := 5, stream := 3, kind := kind }] }

theorem witness_ItemTakeSetsUpActiveItem :
    State.reset.ec.engine ≠ .run ∧ (acting activeItem running).ap.active ≠ none ∧ running.ap.readyQueue = [] ∧
    (queued .finalizeOnly).ap.readyQueue = { slot := 5, stream := 3, kind := .finalizeOnly } :: [] ∧
    (let s := queued .fragment
     s.ec.engine = .run ∧ s.ap.active = none ∧
       s.ap.readyQueue = { slot := 5, stream := 3, kind := .fragment } :: [] ∧ 0 < s.fragmentLength 5 ∧
       s.ap.bufferA.state = .empty ∧ s.ap.bufferB.state = .empty ∧ s.bma.fetchWaiting = false ∧
       s.bma.burst = none ∧ s.bma.ctuWaiting = false) ∧
    ({ queued .fragment with bma.burst := some ctuBurst } : State).bma.burst = some ctuBurst ∧
    ctuBurst.requester = .ctu := by decide

/-- The burst of the active item on the bus, its buffer A FILLING. -/
def fetching (item : ActiveItem) : State :=
  { acting item running with
    bma.burst := some fetchBurst
    ap := { (acting item running).ap with bufferA := { state := .filling, data := [] }, nextFill := .b } }

theorem witness_FetchedBurstFillsBuffer :
    let s := fetching activeItem
    s.ec.engine = .run ∧ s.bma.burst = some fetchBurst ∧ fetchBurst.requester = .fetch ∧
    s.ap.active = some activeItem ∧ activeItem.cut = false ∧ activeItem.failure = none ∧
    (s.ap.buffer .a).state = .filling ∧ (s.ap.buffer BufferId.a.other).state ≠ .filling ∧
    s.ap.nextFill = BufferId.a.other ∧ 0 < activeItem.toFetch - fetchBurst.length ∧
    (s.ap.buffer BufferId.a.other).state = .empty ∧ s.bma.ctuWaiting = false ∧ s.bma.fetchWaiting = false := by decide

/-- The last byte of an item with no request waiting, and the CTU's request waiting. -/
theorem witness_FetchedBurstFillsBuffer_ungranted :
    (let item := { activeItem with toFetch := fetchBurst.length }
     let s := fetching item
     s.ap.active = some item ∧ item.cut = false ∧ item.failure = none ∧ s.bma.ctuWaiting = false ∧
       s.bma.fetchWaiting = false ∧ ¬ 0 < item.toFetch - fetchBurst.length) ∧
    (let a := transfer .exporting 1 0
     let s := { fetching activeItem with ctu.active := some a, bma.ctuWaiting := true }
     s.ec.engine = .run ∧ s.bma.burst = some fetchBurst ∧ s.ap.active = some activeItem ∧
       s.bma.fetchWaiting = false ∧ s.bma.ctuWaiting = true ∧ s.ctu.active = some a) := by decide

/-- R105, R106: buffer A is FULL and then DRAINING, and the next burst makes buffer B FILLING. -/
theorem test_burstOk_grants_into_other_buffer :
    answers (exec (.burstOk (Vector.replicate 64 7)) (fetching activeItem)) (fun t =>
      t.ap.bufferA.state = .draining ∧ t.ap.bufferB = { state := .filling, data := [] }) = true := by decide

/-- The CTU's burst on the bus. -/
def transferring (a : ActiveTransfer) : State :=
  { withThree { openedContext with state := .exporting } running with
    ctu.active := some a
    rss.states := running.rss.states.set 6 .active
    bma.burst := some ctuBurst }

/-- Fourteen RETRY answers so far, so that the next is the fifteenth. -/
theorem witness_RetryKeepsTheBurst :
    (let item := { activeItem with retryCount := 14 }
     (fetching item).ec.engine = .run ∧ (fetching item).bma.burst = some fetchBurst ∧
       fetchBurst.requester = .fetch ∧ (fetching item).ap.active = some item ∧ item.cut = false ∧
       item.retryCount + 1 < 16) ∧
    (let a := transfer .exporting 1 14
     (transferring a).ec.engine = .run ∧ (transferring a).bma.burst = some ctuBurst ∧ ctuBurst.requester = .ctu ∧
       (transferring a).ctu.active = some a ∧ a.retryCount + 1 < 16) := by decide

theorem witness_FetchFailureIsRecorded :
    let item := { activeItem with retryCount := 15 }
    let s := fetching item
    s.ec.engine = .run ∧ s.bma.burst = some fetchBurst ∧ fetchBurst.requester = .fetch ∧ s.ap.active = some item ∧
    item.cut = false ∧ item.retryCount = 15 := by decide

/-- R113, R109: the failing answer frees the bus master for the CTU's request that waits. -/
theorem test_fetch_failure_grants_ctu :
    answers (exec .burstError
        { fetching activeItem with ctu.active := some (transfer .importing 1 0), bma.ctuWaiting := true })
      (fun t => t.bma.burst.map (·.requester) = some .ctu ∧ t.ap.bufferA = Buffer.cleared) = true := by decide

theorem witness_UnwantedBurstEndsAtItsAnswer :
    ({ fetching activeItem with ec.engine := .clearing } : State).ec.engine = .clearing ∧
    ({ fetching activeItem with ec.engine := .clearing } : State).bma.burst = some fetchBurst ∧
    (let item := { activeItem with cut := true }
     (fetching item).bma.burst = some fetchBurst ∧ (fetching item).ec.engine = .run ∧
       fetchBurst.requester = .fetch ∧ (fetching item).ap.active = some item ∧ item.cut = true) := by decide

theorem witness_WaitingRequesterIsGrantedNext :
    (∀ item ∈ [{ activeItem with cut := true }, { activeItem with retryCount := 15 }],
      let a := transfer .exporting 1 0
      let s := { fetching item with ctu.active := some a, bma.ctuWaiting := true }
      s.ec.engine = .run ∧ s.bma.burst = some fetchBurst ∧ fetchBurst.requester = .fetch ∧ s.ap.active = some item ∧
        (item.cut = true ∨ item.cut = false ∧ item.retryCount = 15) ∧
        s.bma.ctuWaiting = true ∧ s.bma.fetchWaiting = false ∧ s.ctu.active = some a) ∧
    (let a := transfer .exporting 1 15
     let s := { acting activeItem (transferring a) with bma.fetchWaiting := true }
     s.ec.engine = .run ∧ s.bma.burst = some ctuBurst ∧ ctuBurst.requester = .ctu ∧ s.bma.fetchWaiting = true ∧
       s.bma.ctuWaiting = false ∧ s.ap.active = some activeItem ∧ s.ctu.active = some a ∧ a.retryCount = 15) := by decide

/-- The CTU's burst on the bus, with the Fetch Engine's request for the active item waiting. -/
theorem witness_fetch_waits_behind_transfer :
    ∀ a ∈ [transfer .exporting 3 15, transfer .importing 4 15],
      let s := { acting activeItem (transferring a) with bma.fetchWaiting := true }
      s.ec.engine = .run ∧ s.bma.burst = some ctuBurst ∧ ctuBurst.requester = .ctu ∧ s.ctu.active = some a ∧
        s.bma.ctuWaiting = false ∧ s.bma.fetchWaiting = true ∧ s.ap.active = some activeItem := by decide

/-- R147, R109: the OK answer to a burst of a transfer lets the Fetch Engine's request go first. -/
theorem test_transfer_yields_to_fetch :
    answers (exec (.burstOk (Vector.replicate 64 0))
        { acting activeItem (transferring (transfer .exporting 1 0)) with bma.fetchWaiting := true })
      (fun t => t.bma.burst.map (·.requester) = some .fetch ∧ t.bma.ctuWaiting = true ∧
        t.ap.bufferA.state = .filling) = true := by decide

/-- A drain of 16 bytes in progress, of an item of stream 3 in the context given. -/
def draining (item : ActiveItem) (c : StreamContext) : State :=
  { withThree c (acting item running) with
    ap := { (acting item running).ap with bufferA := { state := .draining, data := List.replicate 16 0 } }
    dc := { DigestCore.atRest with mode := .draining, algorithm := some .d256 } }

theorem witness_DrainIsAbsorbedOrDiscarded :
    (let item := { activeItem with toDrain := 16, toFetch := 1 }
     let s := draining item openedContext
     s.ec.engine = .run ∧ s.dc.mode = .draining ∧ s.ap.active = some item ∧ item.cut = false ∧
       item.failure = none ∧ s.dc.algorithm = some .d256 ∧ 0 < item.toFetch) ∧
    (let item := { activeItem with toDrain := 17, toFetch := 0 }
     (draining item openedContext).ap.active = some item ∧
       ((draining item openedContext).ap.buffer (draining item openedContext).ap.nextDrain).data.length <
         item.toDrain) ∧
    (let item := { activeItem with cut := true }
     (draining item openedContext).ap.active = some item ∧ item.cut = true) ∧
    (let item := { activeItem with failure := some .busError }
     (draining item openedContext).ap.active = some item ∧ item.failure ≠ none) := by decide

/-- The next burst not wanted, waiting for the CTU's burst, and granted. -/
theorem witness_DrainIsAbsorbedOrDiscarded_next :
    let item := { activeItem with toDrain := 17, toFetch := 1 }
    let s := draining item openedContext
    let done := { activeItem with toDrain := 17, toFetch := 0 }
    (draining done openedContext).ap.active = some done ∧ ¬ 0 < done.toFetch ∧
    s.ec.engine = .run ∧ s.dc.mode = .draining ∧ s.ap.active = some item ∧ 0 < item.toFetch ∧
    s.bma.burst = none ∧ s.bma.fetchWaiting = false ∧ s.bma.ctuWaiting = false ∧
    ({ s with bma.burst := some ctuBurst } : State).bma.burst = some ctuBurst ∧ ctuBurst.requester = .ctu := by decide

theorem witness_LastDrainEndsOrFinalizes :
    let item := { activeItem with toDrain := 16, toFetch := 0 }
    let atEnd := draining item { openedContext with state := .ending, declaredEnd := some 16, frontier := 16 }
    let before := draining item { openedContext with state := .ending, declaredEnd := some 17, frontier := 17 }
    (∀ s ∈ [atEnd, before], s.ec.engine = .run ∧ s.dc.mode = .draining ∧ s.ap.active = some item ∧
      s.dc.algorithm = some .d256 ∧ (s.ap.buffer s.ap.nextDrain).data.length = 16) ∧
    item.cut = false ∧ item.failure = none ∧ item.toFetch = 0 ∧ item.toDrain = 16 ∧
    (atEnd.stream 3).state = .ending ∧ (atEnd.stream 3).declaredEnd = some ((atEnd.stream 3).absorbed + 16) ∧
    (before.stream 3).declaredEnd ≠ some ((before.stream 3).absorbed + 16) := by decide

/-- A finalization of stream 3 in progress. -/
def finalizing (c : StreamContext) : State :=
  { withThree c (acting activeItem running) with
    dc := { DigestCore.atRest with mode := .finalizing, algorithm := some .d512 } }

theorem witness_FinalizationEndsTheStream :
    (let s := finalizing { openedContext with state := .ending, declaredEnd := some 0 }
     s.ec.engine = .run ∧ s.dc.mode = .finalizing ∧ s.ap.active = some activeItem ∧ s.dc.algorithm = some .d512 ∧
       (s.stream activeItem.stream).state = .ending ∧ (s.stream activeItem.stream).declaredEnd = some 0) ∧
    (let s := finalizing { openedContext with state := .aborting, pendingControl := some 9 }
     s.ec.engine = .run ∧ s.dc.mode = .finalizing ∧ s.ap.active = some activeItem ∧
       (s.stream activeItem.stream).state = .aborting ∧
       (s.stream activeItem.stream).pendingControl = some 9) := by decide

theorem witness_FaultReportFaultsStream :
    ∀ failure ∈ [BusFailure.busError, .retryLimit],
    let item := { activeItem with failure := some failure }
    let s := acting item running
    s.ec.engine = .run ∧ s.ap.active = some item ∧ item.failure = some failure ∧ item.cut = false ∧
    s.bma.burst = none ∧ s.ap.bufferA.state ≠ .draining ∧ s.ap.bufferB.state ≠ .draining := by decide

theorem witness_CutItemEndsAbandoned :
    (let item := { activeItem with cut := true }
     let s := withThree { openedContext with state := .aborting, pendingControl := some 9 } (acting item running)
     s.ec.engine = .run ∧ s.ap.active = some item ∧ item.cut = true ∧ s.bma.burst = none ∧ item.failure = none ∧
       s.bma.fetchWaiting = false ∧ s.ap.bufferA.state = .empty ∧ s.ap.bufferB.state = .empty ∧
       (s.stream item.stream).pendingControl = some 9) ∧
    (let item := { activeItem with cut := true, failure := some .busError }
     let s := withThree { openedContext with state := .faulted } (acting item running)
     s.ap.active = some item ∧ item.failure ≠ none ∧ s.ap.bufferA.state ≠ .draining ∧
       (s.stream item.stream).pendingControl = none) := by decide

/-- The longest message there is. -/
theorem witness_PaddingFillsTheLastBlock : (2 ^ 48 : Nat) ≤ 2 ^ 48 := by decide

/-- A transfer of stream 3 in slot 6 at the head of the transfer queue. -/
def transferQueued (kind : TransferKind) : State :=
  { running with ctu.queue := [{ slot := 6, stream := 3, kind := kind }] }

theorem witness_TransferStartBuildsRecord :
    State.reset.ec.engine ≠ .run ∧ (transferring (transfer .importing 1 0)).ctu.active ≠ none ∧
    running.ctu.queue = [] ∧ (transferQueued .exporting).ec.engine = .run ∧
    (transferQueued .exporting).ctu.active = none ∧
    (transferQueued .exporting).ctu.queue = { slot := 6, stream := 3, kind := .exporting } :: [] ∧
    (transferQueued .exporting).bma.burst = none ∧ (transferQueued .exporting).bma.fetchWaiting = false ∧
    ({ transferQueued .importing with bma.burst := some fetchBurst } : State).bma.burst ≠ none := by decide

/-- The first and the third burst are those at the ends of the range. -/
theorem witness_TransferAdvancesBurstByBurst :
    ∀ a ∈ [transfer .exporting 1 0, transfer .importing 3 15],
      (transferring a).ec.engine = .run ∧ (transferring a).bma.burst = some ctuBurst ∧ ctuBurst.requester = .ctu ∧
      (transferring a).ctu.active = some a ∧ 1 ≤ a.burst ∧ a.burst < 4 ∧
      (transferring a).bma.fetchWaiting = false ∧ (transferring a).bma.ctuWaiting = false := by decide

/-- 10.4: the context of "A check word worked out". -/
def exportedContext : StreamContext :=
  { freeContext 5 with
    state := .exporting, algorithm := some .d256, holdLimit := 10, gapTimeout := 20, absorbed := 67,
    residue := [0x11, 0x22, 0x33] }

/-- Burst `k` of a record, as the lanes that carry it. -/
def lanesOf (r : Vector Byte 256) (k : Nat) : Vector Byte 64 :=
  Vector.ofFn fun j : Fin 64 => r.toList.getD (64 * (k - 1) + j.val) 0

theorem witness_FourthBurstEndsTheTransfer :
    ∀ a ∈ [transfer .exporting 4 0, transfer .importing 4 0],
      (transferring a).ec.engine = .run ∧ (transferring a).bma.burst = some ctuBurst ∧ ctuBurst.requester = .ctu ∧
      (transferring a).ctu.active = some a ∧ a.burst = 4 ∧ (transferring a).bma.fetchWaiting = false ∧
      (transferring a).bma.ctuWaiting = false := by decide

/-- The fourth burst of a good record, of one at its declared end, and of a record of zeros. -/
theorem witness_FourthBurstEndsTheTransfer_records :
    let r := contextRecord exportedContext
    let z := contextRecord { exportedContext with declaredEnd := some 67 }
    recordValid (landBurst r 4 (lanesOf r 4)) = true ∧ (importedContext r 5).declaredEnd = none ∧
    recordValid (landBurst z 4 (lanesOf z 4)) = true ∧ (importedContext z 5).declaredEnd = some 67 ∧
    recordValid (landBurst State.reset.ctu.record 4 (Vector.replicate 64 0)) = false := by decide +kernel

theorem witness_TransferFailureEndsTheTransfer :
    ∀ a ∈ [transfer .exporting 2 15, transfer .importing 1 15],
      (transferring a).ec.engine = .run ∧ (transferring a).bma.burst = some ctuBurst ∧ ctuBurst.requester = .ctu ∧
      (transferring a).ctu.active = some a ∧ (transferring a).bma.fetchWaiting = false ∧
      (transferring a).bma.ctuWaiting = false ∧ a.retryCount = 15 := by decide

theorem witness_ContextRecordRoundTrips :
    exportedContext.algorithm = some .d256 ∧ exportedContext.holdLimit ≤ 16 ∧
    exportedContext.residue.length < Algorithm.d256.blockSize ∧
    exportedContext.absorbed % Algorithm.d256.blockSize = exportedContext.residue.length ∧
    exportedContext.absorbed ≤ 2 ^ 48 ∧ exportedContext.declaredEnd = none ∧
    (∀ k : Fin 64, 32 ≤ k.val → exportedContext.chaining[k] = 0) ∧
    (let v : Nat → Word := fun j => if j = 62 then 1 else 0
     (62 : Nat) < 63 ∧ v 62 ≠ (fun _ => 0 : Nat → Word) 62 ∧ ∀ j < 63, j ≠ 62 → v j = 0) := by decide

/-- Slot 0 POSTED in the Post Queue, slot 1 HELD, and a CLAIM waiting. -/
def claiming : State := { fragmentState openedContext 0 1 0 64 with
  pending := [.claim]
  rss := { (fragmentState openedContext 0 1 0 64).rss with freeQueue := (List.finRange 48).drop 2 } }

theorem witness_SlotsStayAccounted : ∃ t, step claiming = .next t := ⟨_, rfl⟩

set_option maxRecDepth 8000 in
theorem witness_SlotsStayAccounted_placed : claiming.slotsAccounted := by
  unfold State.slotsAccounted
  rw [if_neg (by decide)]
  exact ⟨by decide, by decide⟩

theorem witness_CompletionUnitStaysBounded : claiming.cu.bounded := by
  refine ⟨by decide, by decide, by decide, by decide, ?_⟩
  intro n h; cases h

theorem witness_EngineAndBusStayConsistent :
    claiming.ec.consistent ∧ (∀ b, (fetching activeItem).bma.burst = some b → b.withinBlock) ∧
    claiming.ou.heldCount ≤ 40 := by
  refine ⟨by unfold EngineControl.consistent; decide, ?_, by decide⟩
  intro b h; cases h; unfold Burst.withinBlock; decide

theorem witness_RecordsEnterInOrder :
    (∃ t, exec .unknownKind (posting (requestWords 7 0 0 0 0 0 0 0 0) running) = .next t) ∧
    (∀ value, Instr.unknownKind ≠ .cqPop value) ∧ Instr.unknownKind ≠ .sweepCu ∧
    Instr.unknownKind ≠ .resetAssert := by
  exact ⟨⟨_, rfl⟩, fun _ => by simp, by decide, by decide⟩

end Sys2Proof.Tests
end

section
/-! PROOF. SLOT_WORD_WRITE (R84): its outcome in each state of the engine and of the slot, what the slot words read as
after it, and the decoding of a narrow access to the window. -/

namespace Sys2Proof

/-- R178, R179: a narrow access is a BAD_WIDTH, whatever its offset names. -/
theorem decodeAccess_of_isNarrow (a : Access) (h : isNarrow a.size a.offset = true) :
    decodeAccess a = some (.badWidth a.direction a.size a.offset) := if_pos h

/-- R179: an access that is no whole word is narrow at every offset. -/
theorem isNarrow_of_ne_word {size : AccessSize} (h : size ≠ .word) (offset : BitVec 12) :
    isNarrow size offset = true := by simp [isNarrow, h]

end Sys2Proof

namespace Sys2Proof.Machine

/-- R185: in RUN the pin is released, so the window takes accesses. -/
theorem windowOpen_of_running {s : State} (hc : s.ec.consistent) (hr : s.running) : s.windowOpen := by
  obtain ⟨hinit, -⟩ := hc
  cases hpin : s.ec.resetPin with
  | false => exact hpin
  | true => simp [hinit hpin] at hr

theorem exec_slotWordWrite (n : SlotId) (k : Fin 8) (value : Word) (s : State) :
    exec (.slotWordWrite n k value) s = execSlotWordWrite n k value s := rfl

theorem exec_badWidth (direction : Direction) (size : AccessSize) (offset : BitVec 12) (s : State) :
    exec (.badWidth direction size offset) s = execBadWidth direction size offset s := rfl

/-- R196: slot word `k` of slot `n` replaced by `value`. -/
def State.setSlotWord (s : State) (n : SlotId) (k : Fin 8) (value : Word) : State :=
  { s with rss.words := s.rss.words.set n (s.rss.words[n].set k value) }

/-- R84: the word written reads as the value; every other word, of this slot and of the others, as before. -/
theorem slotWord_setSlotWord (s : State) (n : SlotId) (k : Fin 8) (value : Word) (m : SlotId) (j : Fin 8) :
    (s.setSlotWord n k value).slotWord m j = if m = n ∧ j = k then value else s.slotWord m j := by
  unfold State.slotWord State.setSlotWord
  by_cases hm : m = n
  · subst hm
    simp [Vector.getElem_set, Fin.ext_iff, eq_comm]
  · have hne : n.val ≠ m.val := fun h => hm (Fin.ext h.symm)
    simp [hm, hne]

/-- R84: a write to a word of a CLAIMED slot, in RUN. -/
theorem exec_slotWordWrite_of_claimed {s : State} {n : SlotId} (k : Fin 8) (value : Word) (hopen : s.windowOpen)
    (hrun : s.running) (hn : s.slotState n = .claimed) :
    exec (.slotWordWrite n k value) s = .next (s.setSlotWord n k value) := by
  rw [exec_slotWordWrite, execSlotWordWrite, if_pos ⟨hopen, hrun⟩, if_pos hn]; rfl

/-- R84: a write to a word of a slot that is not CLAIMED, in RUN. -/
theorem exec_slotWordWrite_of_not_claimed {s : State} {n : SlotId} (k : Fin 8) (value : Word) (hopen : s.windowOpen)
    (hrun : s.running) (hn : s.slotState n ≠ .claimed) :
    exec (.slotWordWrite n k value) s = .next (protocolError .slotNotClaimed (offsetOf (.slotWord n k)) s) := by
  rw [exec_slotWordWrite, execSlotWordWrite, if_pos ⟨hopen, hrun⟩, if_neg hn]

/-- R84, R96: outside RUN the write is ignored. -/
theorem exec_slotWordWrite_of_not_running {s : State} (n : SlotId) (k : Fin 8) (value : Word) (hrun : ¬ s.running) :
    exec (.slotWordWrite n k value) s = .next s := by
  rw [exec_slotWordWrite, execSlotWordWrite, if_neg fun ⟨_, h⟩ => hrun h]

/-- R84, R179: a BAD_WIDTH reaches no slot. -/
theorem exec_badWidth_rss (direction : Direction) (size : AccessSize) (offset : BitVec 12) (s : State) :
    ∃ t, exec (.badWidth direction size offset) s = .next t ∧ t.rss = s.rss := by
  obtain ⟨t, hexec, hframe⟩ := execBadWidth_frame direction size offset s
  exact ⟨t, by rw [exec_badWidth, hexec], by rw [hframe]⟩

/-- Settles O12: one clause for each outcome of the write, by the state of the engine and of the slot, and the narrow
write through its decoding. -/
theorem slotWordWriteNeedsClaim : Obligations.SlotWordWriteNeedsClaim := by
  intro n k value s hc
  refine ⟨fun hrun hn => ?claimed, fun hrun hn => ?notClaimed, fun hrun => ?ignored,
    fun size hsize => ⟨?decode, ?narrow⟩⟩
  case claimed =>
    exact ⟨_, exec_slotWordWrite_of_claimed k value (windowOpen_of_running hc hrun) hrun hn, rfl,
      slotWord_setSlotWord s n k value⟩
  case notClaimed =>
    rw [exec_slotWordWrite_of_not_claimed k value (windowOpen_of_running hc hrun) hrun hn,
      protocolError_eq]
    rfl
  case ignored => exact exec_slotWordWrite_of_not_running n k value hrun
  case decode => exact decodeAccess_of_isNarrow _ (isNarrow_of_ne_word hsize _)
  case narrow => exact exec_badWidth_rss .write size _ s

end Sys2Proof.Machine
end

section
/-! PROOF. The padding of a message (R130, R131): what its length field spells, and how its zero bytes fill the last
block. -/

namespace Sys2Proof.Machine

/-! ### The length field (R130, R131) -/

/-- `count` bytes that spell a number, most significant first; the length field is such a run
(`lengthBytes_eq_spelledBytes`). -/
def spelledBytes (count value : Nat) : List Byte :=
  (List.range count).map fun i => BitVec.ofNat 8 (value / 2 ^ (8 * (count - 1 - i)))

theorem lengthBytes_eq_spelledBytes (alg : Algorithm) (length : Nat) :
    lengthBytes alg length = spelledBytes alg.lengthField (8 * length) := rfl

@[simp] theorem length_spelledBytes (count value : Nat) : (spelledBytes count value).length = count := by
  simp [spelledBytes]

/-- The last byte is the least significant; the bytes before it spell the quotient by 256. -/
theorem spelledBytes_succ (count value : Nat) :
    spelledBytes (count + 1) value = spelledBytes count (value / 256) ++ [BitVec.ofNat 8 value] := by
  have digit (i : Nat) (hi : i < count) :
      value / 2 ^ (8 * (count + 1 - 1 - i)) = value / 256 / 2 ^ (8 * (count - 1 - i)) := by
    have hexp : 8 * (count + 1 - 1 - i) = 8 + 8 * (count - 1 - i) := by omega
    rw [hexp, pow_add, Nat.div_div_eq_div_mul, show 2 ^ 8 = 256 from rfl]
  unfold spelledBytes
  rw [List.range_succ, List.map_append]
  congr 1
  · exact List.map_congr_left fun i hi => by rw [digit i (List.mem_range.mp hi)]
  · simp

theorem bigEndian_append_singleton (bytes : List Byte) (b : Byte) :
    bigEndian (bytes ++ [b]) = 256 * bigEndian bytes + b.toNat := by
  simp [bigEndian]

theorem bigEndian_spelledBytes (count value : Nat) : bigEndian (spelledBytes count value) = value % 256 ^ count := by
  induction count generalizing value with
  | zero => simp [spelledBytes, bigEndian, Nat.mod_one]
  | succ count ih =>
    have hsplit : value % 256 ^ (count + 1) = value % 256 + 256 * (value / 256 % 256 ^ count) := by
      rw [pow_succ', Nat.mod_mul]
    rw [spelledBytes_succ, bigEndian_append_singleton, ih, BitVec.toNat_ofNat, hsplit, Nat.add_comm]

/-- R131: the field is wide enough for the longest message there is. -/
theorem bitLength_lt (alg : Algorithm) {length : Nat} (h : length ≤ 2 ^ 48) :
    8 * length < 256 ^ alg.lengthField := by
  cases alg <;> simp only [Algorithm.lengthField] <;> omega

@[simp] theorem length_lengthBytes (alg : Algorithm) (length : Nat) :
    (lengthBytes alg length).length = alg.lengthField := by
  rw [lengthBytes_eq_spelledBytes, length_spelledBytes]

theorem bigEndian_lengthBytes (alg : Algorithm) {length : Nat} (h : length ≤ 2 ^ 48) :
    bigEndian (lengthBytes alg length) = 8 * length := by
  rw [lengthBytes_eq_spelledBytes, bigEndian_spelledBytes, Nat.mod_eq_of_lt (bitLength_lt alg h)]

/-! ### The zero bytes (R130) -/

theorem Algorithm.blockSize_pos (alg : Algorithm) : 0 < alg.blockSize := by cases alg <;> decide

/-- The zero bytes end where the length field begins: in the block of the residue when 0x80 and the field still fit
there, and otherwise in the block after it. -/
theorem residue_add_zeroBytes (alg : Algorithm) {r : Nat} (hr : r < alg.blockSize) :
    r + 1 + zeroBytes alg r + alg.lengthField =
      if r < alg.blockSize - alg.lengthField then alg.blockSize else 2 * alg.blockSize := by
  split
  all_goals cases alg <;> simp only [zeroBytes, Algorithm.blockSize, Algorithm.lengthField] at * <;> omega

theorem zeroBytes_lt (alg : Algorithm) (r : Nat) : zeroBytes alg r < alg.blockSize :=
  Nat.mod_lt _ alg.blockSize_pos

theorem residue_add_zeroBytes_mod (alg : Algorithm) {r : Nat} (hr : r < alg.blockSize) :
    (r + 1 + zeroBytes alg r) % alg.blockSize = alg.blockSize - alg.lengthField := by
  have hend := residue_add_zeroBytes alg hr
  split at hend
  all_goals cases alg <;> simp only [Algorithm.blockSize, Algorithm.lengthField] at * <;> omega

/-- A number below the modulus is the least of its residue class. -/
theorem zeroBytes_le (alg : Algorithm) {r y : Nat} (hr : r < alg.blockSize)
    (hy : (r + 1 + y) % alg.blockSize = alg.blockSize - alg.lengthField) : zeroBytes alg r ≤ y := by
  have hclass : zeroBytes alg r ≡ y [MOD alg.blockSize] :=
    Nat.ModEq.add_left_cancel' (r + 1) ((residue_add_zeroBytes_mod alg hr).trans hy.symm)
  calc zeroBytes alg r = zeroBytes alg r % alg.blockSize := (Nat.mod_eq_of_lt (zeroBytes_lt alg r)).symm
    _ = y % alg.blockSize := hclass
    _ ≤ y := Nat.mod_le _ _

theorem zeroBytes_d256 {r : Nat} (hr : r < Algorithm.d256.blockSize) :
    zeroBytes .d256 r = if r ≤ 55 then 55 - r else 119 - r := by
  have hend := residue_add_zeroBytes .d256 hr
  split at hend
  all_goals simp only [Algorithm.blockSize, Algorithm.lengthField] at *; split <;> omega

theorem zeroBytes_d512 {r : Nat} (hr : r < Algorithm.d512.blockSize) :
    zeroBytes .d512 r = if r ≤ 111 then 111 - r else 239 - r := by
  have hend := residue_add_zeroBytes .d512 hr
  split at hend
  all_goals simp only [Algorithm.blockSize, Algorithm.lengthField] at *; split <;> omega

/-! ### The padding -/

theorem length_padding (alg : Algorithm) (length : Nat) :
    (padding alg length).length = 1 + zeroBytes alg (length % alg.blockSize) + alg.lengthField := by
  simp [padding]; omega

theorem residue_add_length_padding (alg : Algorithm) (length : Nat) :
    length % alg.blockSize + (padding alg length).length =
      if length % alg.blockSize < alg.blockSize - alg.lengthField then alg.blockSize else 2 * alg.blockSize := by
  rw [length_padding, ← residue_add_zeroBytes alg (Nat.mod_lt _ alg.blockSize_pos)]
  omega

/-- Settles O49: the length field spells the bit length because it is wide enough for it, and the number of zero bytes
is the one below the block size that ends them where the field begins. -/
theorem paddingFillsTheLastBlock : Obligations.PaddingFillsTheLastBlock := by
  intro alg length hlength r z
  have hr : r < alg.blockSize := Nat.mod_lt _ alg.blockSize_pos
  refine ⟨lengthBytes alg length, rfl, length_lengthBytes alg length, bigEndian_lengthBytes alg hlength,
    residue_add_zeroBytes_mod alg hr, fun y => zeroBytes_le alg hr, ?d256, ?d512,
    residue_add_length_padding alg length⟩
  case d256 => rintro rfl; exact zeroBytes_d256 hr
  case d512 => rintro rfl; exact zeroBytes_d512 hr

end Sys2Proof.Machine
end

section
/-! PROOF. What the happenings of the blocks behind the window do to the rest of the chip, said once for each shared
operation: Engine Control stays, the Completion Unit takes endings and nothing else, a burst placed on the bus lies
within one block (R102, R108), and the device held count stays within its cap (R47). -/

namespace Sys2Proof.Machine

/-! ### Endings, seen at the Completion Unit alone -/

@[simp] theorem CompletionUnit.afterEndings_nil (cu : CompletionUnit) : cu.afterEndings [] = cu := by
  simp [CompletionUnit.afterEndings, CompletionUnit.afterWrites]

theorem CompletionUnit.afterEndings_append (cu : CompletionUnit) (rs qs : List Record) :
    cu.afterEndings (rs ++ qs) = (cu.afterEndings rs).afterEndings qs :=
  congrArg State.cu (State.afterEndings_append { State.reset with cu := cu } rs qs)

theorem CompletionUnit.afterEndings_cons (cu : CompletionUnit) (r : Record) (rs : List Record) :
    cu.afterEndings (r :: rs) = (cu.afterEndings [r]).afterEndings rs := cu.afterEndings_append [r] rs

/-! ### What such a happening keeps -/

/-- The blocks behind the window have worked: what leads from `s` to `t` reaches Engine Control and the queue of
commands not at all, and the Completion Unit by endings only. -/
structure Worked (s t : State) : Prop where
  ec : t.ec = s.ec
  pending : t.pending = s.pending
  cu : ∃ rs, t.cu = s.cu.afterEndings rs
  burst : ∀ b, t.bma.burst = some b → s.bma.burst = some b ∨ b.withinBlock
  held : s.ou.heldCount ≤ Config.holdCap → t.ou.heldCount ≤ Config.holdCap

/-- A happening that reaches neither the Completion Unit nor the bus master, and holds no fragment more. -/
theorem Worked.of_frame {s t : State} (ec : t.ec = s.ec) (pending : t.pending = s.pending) (cu : t.cu = s.cu)
    (burst : t.bma.burst = s.bma.burst) (held : t.ou.heldCount ≤ s.ou.heldCount) : Worked s t where
  ec := ec
  pending := pending
  cu := ⟨[], by simp [cu]⟩
  burst b hb := .inl (burst ▸ hb)
  held h := held.trans h

theorem Worked.refl (s : State) : Worked s s := .of_frame rfl rfl rfl rfl le_rfl

theorem Worked.trans {s t u : State} (hst : Worked s t) (htu : Worked t u) : Worked s u where
  ec := htu.ec.trans hst.ec
  pending := htu.pending.trans hst.pending
  cu := by
    obtain ⟨rs, hrs⟩ := hst.cu
    obtain ⟨qs, hqs⟩ := htu.cu
    exact ⟨rs ++ qs, by rw [hqs, hrs, CompletionUnit.afterEndings_append]⟩
  burst b hb := (htu.burst b hb).elim (hst.burst b) .inr
  held h := htu.held (hst.held h)

/-- `Worked.trans`, from the last operation back. -/
theorem Worked.after {s t u : State} (htu : Worked t u) (hst : Worked s t) : Worked s u := hst.trans htu

/-! ### The shared operations -/

theorem Worked.afterEndings (s : State) (rs : List Record) : Worked s (s.afterEndings rs) where
  ec := rfl
  pending := rfl
  cu := ⟨rs, rfl⟩
  burst _ hb := .inl hb
  held h := h

theorem Worked.complete (n : SlotId) (status : Status) (named : Option StreamRef) (s : State) :
    Worked s (complete n status named s) := by
  rw [complete_eq]; exact .afterEndings s _

theorem Worked.completeAll (endings : List Ending) (named : StreamRef) (s : State) :
    Worked s (completeAll endings named s) := by
  rw [completeAll_eq]; exact .afterEndings s _

theorem Worked.setSlot (s : State) (n : SlotId) (st : SlotState) : Worked s (s.setSlot n st) :=
  .of_frame rfl rfl rfl rfl le_rfl

theorem Worked.setStream (s : State) (h : Handle) (c : StreamContext) : Worked s (s.setStream h c) :=
  .of_frame rfl rfl rfl rfl le_rfl

theorem Worked.updateStream (s : State) (h : Handle) (f : StreamContext → StreamContext) :
    Worked s (s.updateStream h f) := .of_frame rfl rfl rfl rfl le_rfl

theorem Worked.freeStream (h : Handle) (s : State) : Worked s (freeStream h s) := .of_frame rfl rfl rfl rfl le_rfl

theorem Worked.joinReadyQueue (n : SlotId) (h : Handle) (kind : ItemKind) (s : State) :
    Worked s (joinReadyQueue n h kind s) := .of_frame rfl rfl rfl rfl le_rfl

theorem Worked.joinTransferQueue (n : SlotId) (h : Handle) (kind : TransferKind) (s : State) :
    Worked s (joinTransferQueue n h kind s) := .of_frame rfl rfl rfl rfl le_rfl

theorem Worked.waitAsControl (n : SlotId) (h : Handle) (s : State) : Worked s (waitAsControl n h s) :=
  .of_frame rfl rfl rfl rfl le_rfl

theorem Worked.dropActive (h : Handle) (s : State) : Worked s (dropActive h s) := .of_frame rfl rfl rfl rfl le_rfl

theorem Worked.removeWork (h : Handle) (s : State) : Worked s (removeWork h s) :=
  .of_frame rfl rfl rfl rfl (Nat.sub_le _ _)

/-- R64, R116: a cut leaves the burst on the bus. -/
@[simp] theorem cutActive_burst (h : Handle) (s : State) : (cutActive h s).bma.burst = s.bma.burst := by
  unfold cutActive; split <;> [split <;> rfl; rfl]

theorem Worked.cutActive (h : Handle) (s : State) : Worked s (cutActive h s) :=
  .of_frame (by simp) (by simp) (by simp) (by simp) (by simp)

theorem Worked.beginDrain (s : State) : Worked s (beginDrain s) :=
  .of_frame (by simp) (by simp) (by simp) (by simp) (by simp)

/-! ### The arbiter -/

/-- R102, R108: the next burst of an item ends at or before the next multiple of 64. -/
theorem burstLength_le (item : ActiveItem) : item.nextAddress.toNat % 64 + item.burstLength ≤ 64 := by
  have : item.nextAddress.toNat % 64 < 64 := Nat.mod_lt _ (by decide)
  simp only [ActiveItem.burstLength, toBoundary]; omega

theorem Worked.grantFetch (item : ActiveItem) (s : State) : Worked s (grantFetch item s) where
  ec := rfl
  pending := rfl
  cu := ⟨[], by simp⟩
  burst b hb := by
    cases hb
    have := burstLength_le item
    exact .inr ⟨by dsimp only; omega, fun _ => this⟩
  held h := h

theorem Worked.grantCtu (a : ActiveTransfer) (s : State) : Worked s (grantCtu a s) where
  ec := rfl
  pending := rfl
  cu := ⟨[], by simp⟩
  burst b hb := by cases hb; exact .inr ⟨le_rfl, fun hr => nomatch hr⟩
  held h := h

theorem Worked.arbitrate (s : State) : Worked s (arbitrate s) := by
  rcases arbitrate_cases s with h | ⟨item, _, _, _, _, h⟩ | ⟨a, _, _, _, _, h⟩ <;> rw [h]
  · exact .refl s
  · exact .grantFetch item s
  · exact .grantCtu a s

theorem Worked.endBurst (s : State) : Worked s (endBurst s) :=
  have hidle : Worked s { s with bma.burst := none } :=
    { ec := rfl, pending := rfl, cu := ⟨[], by simp⟩, burst := fun _ hb => (nomatch hb), held := id }
  hidle.trans (.arbitrate _)

theorem Worked.requestFetch (s : State) : Worked s (requestFetch s) := by
  rcases requestFetch_cases s with h | h <;> rw [h]
  · exact .refl s
  · exact (Worked.arbitrate _).after (.of_frame rfl rfl rfl rfl le_rfl)

theorem Worked.requestCtu (s : State) : Worked s (requestCtu s) :=
  (Worked.arbitrate _).after (.of_frame rfl rfl rfl rfl le_rfl)

theorem Worked.examineAbsorbPath (s : State) : Worked s (examineAbsorbPath s) :=
  (Worked.beginDrain s).trans (.requestFetch _)

end Sys2Proof.Machine
end

section
/-! PROOF. Every happening of the Dispatcher, of the Absorb Path, of the Digest Core, of the CTU and of the gap timers
works as `Worked` says. -/

namespace Sys2Proof.Machine

/-! ### The takes of the Dispatcher -/

theorem Worked.refuse (n : SlotId) (status : Status) (s : State) : Worked s (refuse n status s) :=
  .complete n status none s

theorem Worked.refuseNaming (n : SlotId) (status : Status) (h : Handle) (s : State) :
    Worked s (refuseNaming n status h s) := .complete n status _ s

theorem Worked.openOutcome (n : SlotId) (s : State) : Worked s (openOutcome n s) := by
  unfold Machine.openOutcome
  split
  · exact .refuse n .noHandle s
  · dsimp only
    split
    · exact (Worked.setStream s _ _).trans (.joinReadyQueue n _ .finalizeOnly _)
    · exact (Worked.setStream s _ _).trans (.refuseNaming n .ok _ _)
  · exact .refuse n .badRequest s

theorem Worked.acceptInOrder (n : SlotId) (h : Handle) (s : State) : Worked s (acceptInOrder n h s) := by
  unfold Machine.acceptInOrder
  dsimp only
  rw [setSlots_eq]
  exact .of_frame rfl rfl rfl rfl (Nat.sub_le _ _)

/-- R42, R47: a fragment is held only while the device held count is not at its cap. -/
theorem heldCount_ne_of_held {s : State} {n : SlotId} {h : Handle} (hv : fragmentVerdict s n = .held h) :
    s.ou.heldCount ≠ Config.holdCap := by
  intro hcap
  unfold fragmentVerdict at hv
  split at hv
  · cases hv
  · dsimp only at hv
    split at hv
    · cases hv
    · simp [hcap] at hv
      split_ifs at hv

theorem Worked.holdFragment (n : SlotId) (h : Handle) (s : State) (hcap : s.ou.heldCount ≠ Config.holdCap) :
    Worked s (holdFragment n h s) where
  ec := rfl
  pending := rfl
  cu := ⟨[], by simp [Machine.holdFragment]⟩
  burst _ hb := .inl hb
  held hle := Nat.lt_of_le_of_ne hle hcap

theorem Worked.fragmentOutcome (n : SlotId) (s : State) : Worked s (fragmentOutcome n s) := by
  unfold Machine.fragmentOutcome
  split
  next status _ => exact .refuse n status s
  next status h _ => exact .refuseNaming n status h s
  next h _ => exact .acceptInOrder n h s
  next h hv => exact .holdFragment n h s (heldCount_ne_of_held hv)

theorem Worked.releaseStream (n : SlotId) (h : Handle) (s : State) : Worked s (releaseStream n h s) := by
  unfold Machine.releaseStream
  split
  · exact (Worked.freeStream h s).trans (.complete n .ok _ _)
  · split
    · exact (Worked.freeStream h s).trans (.complete n .ok _ _)
    · exact .waitAsControl n h s
  · exact .refuseNaming n .wrongState h s

theorem Worked.tearDownForAbort (n : SlotId) (h : Handle) (s : State) : Worked s (tearDownForAbort n h s) := by
  have hremove := Worked.removeWork h s
  unfold Machine.tearDownForAbort
  dsimp only
  split
  · exact (((hremove.trans (.cutActive h _)).trans (.updateStream _ h _)).trans (.waitAsControl n h _)).trans
      (.completeAll _ _ _)
  · exact (hremove.trans (.freeStream h _)).trans (.completeAll _ _ _)

theorem Worked.abortOutcome (n : SlotId) (s : State) : Worked s (abortOutcome n s) := by
  unfold Machine.abortOutcome
  split
  next status _ => exact .refuse n status s
  next status h _ => exact .refuseNaming n status h s
  next h _ =>
    split
    · exact .tearDownForAbort n h s
    · exact .tearDownForAbort n h s
    · exact .releaseStream n h s

theorem Worked.releaseOutcome (n : SlotId) (s : State) : Worked s (releaseOutcome n s) := by
  unfold Machine.releaseOutcome
  split
  next status _ => exact .refuse n status s
  next status h _ => exact .refuseNaming n status h s
  next h _ => exact .releaseStream n h s

theorem Worked.exportOutcome (n : SlotId) (s : State) : Worked s (exportOutcome n s) := by
  unfold Machine.exportOutcome
  split
  · exact .refuse n .badRequest s
  next h _ =>
    split
    · exact .refuse n .badAlign s
    · split
      next status _ => exact .refuse n status s
      · dsimp only
        split
        · exact .refuseNaming n .wrongState h s
        · split
          · exact .refuseNaming n .notQuiescent h s
          · exact (Worked.setStream s h _).trans (.joinTransferQueue n h .exporting _)

theorem Worked.importOutcome (n : SlotId) (s : State) : Worked s (importOutcome n s) := by
  unfold Machine.importOutcome
  split
  · exact .refuse n .badRequest s
  · split
    · exact .refuse n .badAlign s
    · split
      · exact .refuse n .noHandle s
      next h _ => exact (Worked.setStream s h _).trans (.joinTransferQueue n h .importing _)

/-- R89, R90: a take works when the outcome of every request it takes does. -/
theorem Worked.dispatchTake {request : SlotId → State → State} (hr : ∀ n s, Worked s (request n s))
    (kind : Byte → Bool) (s : State) : ∃ t, dispatchTake kind request s = .next t ∧ Worked s t := by
  unfold Machine.dispatchTake
  split
  · split
    · exact ⟨s, rfl, .refl s⟩
    next n rest _ =>
      split
      · exact ⟨_, rfl, (hr n _).after (.of_frame rfl rfl rfl rfl le_rfl)⟩
      · exact ⟨s, rfl, .refl s⟩
  · exact ⟨s, rfl, .refl s⟩

/-! ### The Context Transfer Unit -/

theorem Worked.failImport (t : Transfer) (status : Status) (s : State) : Worked s (failImport t status s) :=
  (Worked.complete t.slot status _ _).after (.of_frame rfl rfl rfl rfl le_rfl)

theorem Worked.finishExport (t : Transfer) (s : State) : Worked s (finishExport t s) :=
  (Worked.complete t.slot .ok _ _).after (.of_frame rfl rfl rfl rfl le_rfl)

theorem Worked.finishImport (t : Transfer) (s : State) : Worked s (finishImport t s) := by
  unfold Machine.finishImport
  split
  · dsimp only
    split
    · exact .of_frame rfl rfl rfl rfl le_rfl
    · exact (Worked.complete t.slot .ok _ _).after (.of_frame rfl rfl rfl rfl le_rfl)
  · exact .failImport t .badContext s

theorem Worked.failTransfer (t : Transfer) (failure : BusFailure) (s : State) :
    Worked s (failTransfer t failure s) := by
  unfold Machine.failTransfer
  split
  · exact (Worked.complete t.slot failure.status _ _).after (.of_frame rfl rfl rfl rfl le_rfl)
  · exact .failImport t failure.status s

/-- R147: what an OK answer to a burst of the active transfer lands in the record buffer. -/
def landTransfer (a : ActiveTransfer) (lanes : Vector Byte 64) (s : State) : State :=
  match a.transfer.kind with
  | .exporting => s
  | .importing => { s with ctu.record := landBurst s.ctu.record a.burst lanes }

theorem advanceTransfer_eq (a : ActiveTransfer) (lanes : Vector Byte 64) (s : State) :
    advanceTransfer a lanes s =
      if a.burst < 4 then
        requestCtu (endBurst { landTransfer a lanes s with
          ctu.active := some { a with burst := a.burst + 1, retryCount := 0 } })
      else
        match a.transfer.kind with
        | .exporting => finishExport a.transfer (endBurst (landTransfer a lanes s))
        | .importing => finishImport a.transfer (endBurst (landTransfer a lanes s)) := rfl

theorem Worked.landTransfer (a : ActiveTransfer) (lanes : Vector Byte 64) (s : State) :
    Worked s (landTransfer a lanes s) := by
  unfold Machine.landTransfer
  split
  · exact .refl s
  · exact .of_frame rfl rfl rfl rfl le_rfl

theorem Worked.advanceTransfer (a : ActiveTransfer) (lanes : Vector Byte 64) (s : State) :
    Worked s (advanceTransfer a lanes s) := by
  have hland := Worked.landTransfer a lanes s
  rw [advanceTransfer_eq]
  split
  · exact (Worked.requestCtu _).after ((Worked.endBurst _).after (hland.trans (.of_frame rfl rfl rfl rfl le_rfl)))
  · split
    · exact (hland.trans (.endBurst _)).trans (.finishExport a.transfer _)
    · exact (hland.trans (.endBurst _)).trans (.finishImport a.transfer _)

theorem Worked.transferStart (s : State) : ∃ t, execTransferStart s = .next t ∧ Worked s t := by
  unfold execTransferStart
  split
  · exact ⟨_, rfl, (Worked.requestCtu _).after (.of_frame rfl rfl rfl rfl le_rfl)⟩
  · exact ⟨s, rfl, .refl s⟩

/-! ### The Absorb Path and the Digest Core -/

theorem Worked.takeItem (item : ReadyItem) (rest : List ReadyItem) (s : State) :
    Worked s (takeItem item rest s) := by
  unfold Machine.takeItem
  exact (Worked.requestFetch _).after (.of_frame rfl rfl rfl rfl le_rfl)

theorem Worked.endUnwanted (b : Burst) (s : State) : Worked s (endUnwanted b s) := by
  unfold Machine.endUnwanted
  split
  · exact (Worked.endBurst _).after (.of_frame rfl rfl rfl rfl le_rfl)
  · exact .endBurst s

theorem Worked.landFetch (b : Burst) (item : ActiveItem) (lanes : Vector Byte 64) (s : State) :
    Worked s (landFetch b item lanes s) := by
  unfold Machine.landFetch
  exact (Worked.examineAbsorbPath _).after ((Worked.endBurst _).after (.of_frame rfl rfl rfl rfl le_rfl))

theorem Worked.answerOk (b : Burst) (lanes : Vector Byte 64) (s : State) : Worked s (answerOk b lanes s) := by
  unfold Machine.answerOk
  split
  · exact .endUnwanted b s
  · split
    · exact .landFetch b _ lanes s
    · exact .advanceTransfer _ lanes s
    · exact .endBurst s

theorem Worked.failFetch (item : ActiveItem) (failure : BusFailure) (s : State) :
    Worked s (failFetch item failure s) :=
  (Worked.endBurst _).after (.of_frame rfl rfl rfl rfl le_rfl)

theorem Worked.answerFailure (b : Burst) (failure : BusFailure) (s : State) :
    Worked s (answerFailure b failure s) := by
  unfold Machine.answerFailure
  split
  · exact .endUnwanted b s
  · split
    · exact .failFetch _ failure s
    · exact (Worked.endBurst s).trans (.failTransfer _ failure _)
    · exact .endBurst s

theorem Worked.countRetry (b : Burst) (s : State) : Worked s (countRetry b s) := by
  unfold Machine.countRetry
  split <;> exact .of_frame rfl rfl rfl rfl le_rfl

theorem Worked.answerRetry (b : Burst) (s : State) : Worked s (answerRetry b s) := by
  have hcount := Worked.countRetry b s
  unfold Machine.answerRetry
  dsimp only
  split
  · exact hcount.trans (.endUnwanted b _)
  · split
    · exact hcount.trans (.answerFailure b .retryLimit _)
    · exact hcount

theorem Worked.finishItem (item : ActiveItem) (s : State) : Worked s (finishItem item s) :=
  (Worked.dropActive item.stream s).trans (.complete item.slot .ok _ _)

theorem Worked.absorbDrain (item : ActiveItem) (s : State) : Worked s (absorbDrain item s) :=
  .of_frame rfl rfl rfl rfl le_rfl

theorem Worked.discardDrain (item : ActiveItem) (s : State) : Worked s (discardDrain item s) :=
  .of_frame rfl rfl rfl rfl le_rfl

theorem Worked.afterDrain (s : State) : Worked s (afterDrain s) := by
  unfold Machine.afterDrain
  split
  · exact .refl s
  next item _ =>
    split
    · dsimp only
      split
      · exact .of_frame rfl rfl rfl rfl le_rfl
      · exact .finishItem item s
    · exact .examineAbsorbPath s

theorem Worked.storeDigest (item : ActiveItem) (s : State) : Worked s (storeDigest item s) :=
  ((Worked.dropActive item.stream s).trans (.updateStream _ _ _)).trans (.complete item.slot .okFinal _ _)

theorem Worked.abandonActive (item : ActiveItem) (s : State) : Worked s (abandonActive item s) := by
  have hdrop := Worked.dropActive item.stream s
  unfold Machine.abandonActive
  dsimp only
  split
  · exact (hdrop.trans (.freeStream _ _)).trans (.completeAll _ _ _)
  · exact hdrop.trans (.completeAll _ _ _)

theorem Worked.faultStream (item : ActiveItem) (failure : BusFailure) (s : State) :
    Worked s (faultStream item failure s) :=
  (((Worked.dropActive item.stream s).trans (.removeWork item.stream _)).trans (.updateStream _ _ _)).trans
    (.completeAll _ _ _)

/-! ### The commands of the Absorb Path and the Digest Core -/

theorem Worked.itemTake (s : State) : ∃ t, execItemTake s = .next t ∧ Worked s t := by
  unfold execItemTake
  split
  next item rest _ _ _ => exact ⟨_, rfl, .takeItem item rest s⟩
  · exact ⟨s, rfl, .refl s⟩

theorem Worked.burstOk (lanes : Vector Byte 64) (s : State) : ∃ t, execBurstOk lanes s = .next t ∧ Worked s t := by
  unfold execBurstOk
  split
  next b _ => exact ⟨_, rfl, .answerOk b lanes s⟩
  · exact ⟨s, rfl, .refl s⟩

theorem Worked.burstRetry (s : State) : ∃ t, execBurstRetry s = .next t ∧ Worked s t := by
  unfold execBurstRetry
  split
  next b _ => exact ⟨_, rfl, .answerRetry b s⟩
  · exact ⟨s, rfl, .refl s⟩

theorem Worked.retryLimit (s : State) : ∃ t, execRetryLimit s = .next t ∧ Worked s t := by
  unfold execRetryLimit
  split
  next b _ =>
    split
    · exact ⟨_, rfl, .answerRetry b s⟩
    · exact ⟨s, rfl, .refl s⟩
  · exact ⟨s, rfl, .refl s⟩

theorem Worked.burstError (s : State) : ∃ t, execBurstError s = .next t ∧ Worked s t := by
  unfold execBurstError
  split
  next b _ => exact ⟨_, rfl, .answerFailure b .busError s⟩
  · exact ⟨s, rfl, .refl s⟩

theorem Worked.drainEnd (s : State) : ∃ t, execDrainEnd s = .next t ∧ Worked s t := by
  unfold execDrainEnd
  split
  next item _ _ _ =>
    split
    · exact ⟨_, rfl, (Worked.absorbDrain item s).trans (.afterDrain _)⟩
    · exact ⟨_, rfl, .discardDrain item s⟩
  · exact ⟨s, rfl, .refl s⟩

theorem Worked.finalizationEnd (s : State) : ∃ t, execFinalizationEnd s = .next t ∧ Worked s t := by
  unfold execFinalizationEnd
  split
  next item _ _ _ =>
    split
    · exact ⟨_, rfl, .abandonActive item s⟩
    · exact ⟨_, rfl, .storeDigest item s⟩
  · exact ⟨s, rfl, .refl s⟩

theorem Worked.faultReport (s : State) : ∃ t, execFaultReport s = .next t ∧ Worked s t := by
  unfold execFaultReport
  split
  next item _ _ =>
    split
    next failure _ =>
      split
      · split
        · exact ⟨_, rfl, .abandonActive item s⟩
        · exact ⟨_, rfl, .faultStream item failure s⟩
      · exact ⟨s, rfl, .refl s⟩
    · exact ⟨s, rfl, .refl s⟩
  · exact ⟨s, rfl, .refl s⟩

theorem Worked.cutEnd (s : State) : ∃ t, execCutEnd s = .next t ∧ Worked s t := by
  unfold execCutEnd
  split
  next item _ _ =>
    split
    · exact ⟨_, rfl, .abandonActive item s⟩
    · exact ⟨s, rfl, .refl s⟩
  · exact ⟨s, rfl, .refl s⟩

/-! ### The gap timers -/

theorem Worked.expireGap (h : Handle) (s : State) : Worked s (expireGap h s) :=
  (((Worked.removeWork h s).trans (.cutActive h _)).trans (.updateStream _ h _)).trans (.completeAll _ _ _)

theorem Worked.countGap (s : State) (h : Handle) : Worked s (countGap s h) := by
  unfold Machine.countGap
  split
  · exact .refl s
  · split
    · exact .expireGap h s
    · exact .updateStream s h _

/-- R58: a tick taken at the gap timers of several streams. -/
theorem Worked.countGaps (hs : List Handle) (s : State) : Worked s (hs.foldl Machine.countGap s) := by
  induction hs generalizing s with
  | nil => exact .refl s
  | cons h hs ih => exact (Worked.countGap s h).trans (ih _)

end Sys2Proof.Machine
end

section
/-! PROOF. What every command keeps: it answers a next state, leaves the commands that wait, and keeps the Completion
Unit within its bounds (R158), Engine Control in agreement with the RESET pin (R184), bursts within a block (R108), the
held count within its cap (R47), and, but for a pop, a sweep and RESET, the records outstanding in order (R163). -/

namespace Sys2Proof.Machine

/-! ### The Completion Unit within its bounds -/

/-- R168, R169: what `CompletionUnit.bounded` says of the coalescing timer. -/
def CompletionUnit.timerBounded (cu : CompletionUnit) : Prop :=
  ∀ n, cu.timer = some n → 1 ≤ n ∧ n ≤ 65535 ∧ cu.cqCause = false

theorem CompletionUnit.bounded_iff (cu : CompletionUnit) :
    cu.bounded ↔ cu.queue.length ≤ Config.queueCapacity ∧
      (cu.backlog ≠ [] → cu.queue.length = Config.queueCapacity) ∧
      1 ≤ cu.threshold ∧ cu.threshold ≤ 64 ∧ cu.timerBounded := Iff.rfl

theorem timerBounded_of_none {cu : CompletionUnit} (h : cu.timer = none) : cu.timerBounded := by
  intro n hn; simp [h] at hn

/-- R169: W, when it is not 0, is 1 to 65535 ticks. -/
theorem holdTime_ticks {w : BitVec 16} (hw : w ≠ 0) : 1 ≤ w.toNat ∧ w.toNat ≤ 65535 := by
  have hlt := w.isLt
  have hne : w.toNat ≠ 0 := fun h => hw (BitVec.eq_of_toNat_eq h)
  omega

/-- R170: a timer that records start has W ticks, and starts only with the CQ cause clear. -/
theorem timerBounded_afterWrites {cu : CompletionUnit} (h : cu.timerBounded) (rs : List Record) :
    (cu.afterWrites rs).timerBounded := by
  unfold CompletionUnit.afterWrites
  dsimp only
  split
  next _ => exact h
  next hwrite =>
    have hclear : cu.cqCause = false := by
      simp only [not_or, Bool.not_eq_true] at hwrite
      exact hwrite.2
    split
    · exact timerBounded_of_none rfl
    · split
      next hstart =>
        rintro n ⟨⟩
        obtain ⟨hlow, hhigh⟩ := holdTime_ticks hstart.2
        exact ⟨hlow, hhigh, hclear⟩
      next _ => exact h

/-- R162: the queue takes endings up to its capacity, and the Backlog only what finds no room. -/
theorem bounded_afterEndings {cu : CompletionUnit} (h : cu.bounded) (rs : List Record) :
    (cu.afterEndings rs).bounded := by
  obtain ⟨hqueue, hfull, hlow, hhigh, htimer⟩ := cu.bounded_iff.1 h
  refine (CompletionUnit.bounded_iff _).2 ⟨?capacity, ?full, ?low, ?high, timerBounded_afterWrites htimer _⟩
  case capacity =>
    simp only [CompletionUnit.afterEndings, CompletionUnit.afterWrites_queue, List.length_append, List.length_take]
    unfold CompletionUnit.room
    split <;> omega
  case full =>
    simp only [CompletionUnit.afterEndings, CompletionUnit.afterWrites_queue, List.length_append, List.length_take]
    unfold CompletionUnit.room
    by_cases hb : cu.backlog = []
    · simp only [hb, if_true, List.nil_append, ne_eq, List.map_eq_nil_iff, List.drop_eq_nil_iff]
      omega
    · simp [hb, hfull hb]
  case low => simpa [CompletionUnit.afterEndings] using hlow
  case high => simpa [CompletionUnit.afterEndings] using hhigh

/-- R172: a timer that the clearing of CQ starts has W ticks and the cause clear. -/
theorem bounded_clearCq {s : State} (h : s.cu.bounded) : (clearCq s).cu.bounded := by
  obtain ⟨hqueue, hfull, hlow, hhigh, -⟩ := s.cu.bounded_iff.1 h
  rw [clearCq_eq]
  dsimp only
  split
  · split
    · exact ⟨hqueue, hfull, hlow, hhigh, timerBounded_of_none rfl⟩
    · split
      next hstart =>
        refine ⟨hqueue, hfull, hlow, hhigh, ?_⟩
        rintro n ⟨⟩
        obtain ⟨hlow, hhigh⟩ := holdTime_ticks hstart.2
        exact ⟨hlow, hhigh, rfl⟩
      · exact ⟨hqueue, hfull, hlow, hhigh, timerBounded_of_none rfl⟩
  · exact h

theorem bounded_raiseCq {s : State} (h : s.cu.bounded) : (raiseCq s).cu.bounded := by
  obtain ⟨hqueue, hfull, hlow, hhigh, -⟩ := s.cu.bounded_iff.1 h
  exact ⟨hqueue, hfull, hlow, hhigh, timerBounded_of_none rfl⟩

theorem bounded_countCoalescing {s : State} (h : s.cu.bounded) : (countCoalescing s).cu.bounded := by
  obtain ⟨hqueue, hfull, hlow, hhigh, htimer⟩ := s.cu.bounded_iff.1 h
  unfold countCoalescing
  split
  · exact h
  next n hn =>
    split
    · exact bounded_raiseCq h
    · refine ⟨hqueue, hfull, hlow, hhigh, ?_⟩
      rintro m ⟨⟩
      obtain ⟨-, hmax, hclear⟩ := htimer n hn
      exact ⟨by omega, by omega, hclear⟩

/-- R168: T as it is taken. -/
theorem clampThreshold_bounds (n : Nat) : 1 ≤ clampThreshold n ∧ clampThreshold n ≤ 64 := by
  unfold clampThreshold; omega

/-! ### What a command keeps -/

/-- What every command keeps from `s` to `t`. -/
structure Kept (s t : State) : Prop where
  pending : t.pending = s.pending
  cu : s.cu.bounded → t.cu.bounded
  ec : s.ec.consistent → t.ec.consistent
  /-- R187: an engine clear begins with no block swept. -/
  clear : s.ec.engine ≠ .clearing → t.ec.engine = .clearing → t.ec.swept = Swept.none
  burst : ∀ b, t.bma.burst = some b → s.bma.burst = some b ∨ b.withinBlock
  held : s.ou.heldCount ≤ Config.holdCap → t.ou.heldCount ≤ Config.holdCap

/-- R163: and beside, no record outstanding is lost, changed or moved before another. -/
structure Entered (s t : State) : Prop extends Kept s t where
  records : ∃ rs, t.records = s.records ++ rs

theorem Worked.entered {s t : State} (h : Worked s t) : Entered s t where
  pending := h.pending
  cu hb := by
    obtain ⟨rs, hrs⟩ := h.cu
    exact hrs ▸ bounded_afterEndings hb rs
  ec hc := h.ec ▸ hc
  clear hs ht := absurd (h.ec ▸ ht) hs
  burst := h.burst
  held := h.held
  records := by
    obtain ⟨rs, hrs⟩ := h.cu
    exact ⟨rs, by rw [← afterEndings_records]; simp only [State.records, hrs]; rfl⟩

theorem Entered.refl (s : State) : Entered s s := (Worked.refl s).entered

/-- A happening in which the Completion Unit changes, but for its records. -/
theorem Entered.of_cu {s t : State} (ec : t.ec = s.ec) (pending : t.pending = s.pending) (bma : t.bma = s.bma)
    (ou : t.ou = s.ou) (queue : t.cu.queue = s.cu.queue) (backlog : t.cu.backlog = s.cu.backlog)
    (cu : s.cu.bounded → t.cu.bounded) : Entered s t where
  pending := pending
  cu := cu
  ec h := ec ▸ h
  clear hs ht := absurd (ec ▸ ht) hs
  burst b hb := .inl (bma ▸ hb)
  held h := ou ▸ h
  records := ⟨[], by simp [State.records, queue, backlog]⟩

/-- A happening in which Engine Control changes, and nothing of the Completion Unit. -/
theorem Entered.of_ec {s t : State} (ec : s.ec.consistent → t.ec.consistent)
    (clear : s.ec.engine ≠ .clearing → t.ec.engine = .clearing → t.ec.swept = Swept.none)
    (pending : t.pending = s.pending)
    (burst : t.bma.burst = s.bma.burst ∨ t.bma.burst = none) (held : t.ou.heldCount ≤ s.ou.heldCount)
    (cu : t.cu = s.cu) : Entered s t where
  pending := pending
  cu h := cu ▸ h
  ec := ec
  clear := clear
  burst b hb := by
    rcases burst with h | h
    · exact .inl (h ▸ hb)
    · simp [h] at hb
  held h := held.trans h
  records := ⟨[], by simp [State.records, cu]⟩

/-! ### The window commands -/

theorem Worked.protocolError (cause : ProtocolError) (offset : BitVec 12) (s : State) :
    Worked s (protocolError cause offset s) := by
  rw [protocolError_eq]; exact .of_frame rfl rfl rfl rfl le_rfl

theorem Worked.answerRefused (direction : Direction) (s : State) : Worked s (answerRefused direction s) := by
  cases direction <;> exact .of_frame rfl rfl rfl rfl le_rfl

theorem Worked.handOver {move : SlotId → State → State} (hm : ∀ n s, Worked s (move n s)) (register : Register)
    (value : Word) (s : State) : Worked s (handOver register value move s) := by
  unfold Machine.handOver
  split
  · split
    · exact .protocolError _ _ s
    · split
      · exact hm _ s
      · exact .protocolError _ _ s
  · exact .refl s

theorem Worked.returnToFreeQueue (n : SlotId) (s : State) : Worked s (returnToFreeQueue n s) :=
  .of_frame rfl rfl rfl rfl le_rfl

theorem Worked.joinPostQueue (n : SlotId) (s : State) : Worked s (joinPostQueue n s) :=
  .of_frame rfl rfl rfl rfl le_rfl

theorem Worked.claim (s : State) : ∃ t, execClaim s = .next t ∧ Worked s t := by
  unfold execClaim
  split
  · dsimp only
    split <;> exact ⟨_, rfl, .of_frame rfl rfl rfl rfl le_rfl⟩
  · exact ⟨s, rfl, .refl s⟩

theorem Worked.returnSlot (value : Word) (s : State) : ∃ t, execReturnSlot value s = .next t ∧ Worked s t :=
  ⟨_, rfl, .handOver .returnToFreeQueue .returnSlot value s⟩

theorem Worked.post (value : Word) (s : State) : ∃ t, execPost value s = .next t ∧ Worked s t :=
  ⟨_, rfl, .handOver .joinPostQueue .post value s⟩

theorem Worked.slotWordWrite (n : SlotId) (k : Fin 8) (value : Word) (s : State) :
    ∃ t, execSlotWordWrite n k value s = .next t ∧ Worked s t := by
  unfold execSlotWordWrite
  split
  · split
    · exact ⟨_, rfl, .of_frame rfl rfl rfl rfl le_rfl⟩
    · exact ⟨_, rfl, .protocolError _ _ s⟩
  · exact ⟨s, rfl, .refl s⟩

theorem Worked.badWidth (direction : Direction) (size : AccessSize) (offset : BitVec 12) (s : State) :
    ∃ t, execBadWidth direction size offset s = .next t ∧ Worked s t := by
  unfold execBadWidth
  split
  · exact ⟨_, rfl, (Worked.answerRefused direction s).trans (.protocolError _ _ _)⟩
  · exact ⟨s, rfl, .refl s⟩

theorem Worked.badAddress (direction : Direction) (offset : BitVec 12) (s : State) :
    ∃ t, execBadAddress direction offset s = .next t ∧ Worked s t := by
  unfold execBadAddress
  split
  · exact ⟨_, rfl, (Worked.answerRefused direction s).trans (.protocolError _ _ _)⟩
  · exact ⟨s, rfl, .refl s⟩

theorem Worked.readOnly (offset : BitVec 12) (s : State) : ∃ t, execReadOnly offset s = .next t ∧ Worked s t := by
  unfold execReadOnly
  split
  · exact ⟨_, rfl, .protocolError _ _ s⟩
  · exact ⟨s, rfl, .refl s⟩

/-- A command that works under a condition, and else is not taken. -/
theorem Worked.ite {p : Prop} [Decidable p] {s t : State} (h : p → Worked s t) :
    ∃ u, (if p then .next t else .next s : Result) = .next u ∧ Worked s u := by
  split
  next hp => exact ⟨t, rfl, h hp⟩
  next _ => exact ⟨s, rfl, .refl s⟩

/-- The same of a command that keeps what every command keeps. -/
theorem Entered.ite {p : Prop} [Decidable p] {s t : State} (h : p → Entered s t) :
    ∃ u, (if p then .next t else .next s : Result) = .next u ∧ Entered s u := by
  split
  next hp => exact ⟨t, rfl, h hp⟩
  next _ => exact ⟨s, rfl, .refl s⟩

theorem Entered.of_worked {r : Result} {s : State} (h : ∃ t, r = .next t ∧ Worked s t) :
    ∃ t, r = .next t ∧ Entered s t := by
  obtain ⟨t, hr, hw⟩ := h
  exact ⟨t, hr, hw.entered⟩

/-- R174: of the Completion Unit, a write of INT_STATUS does what the clearing of CQ does. -/
theorem writeIntStatus_eq (value : Word) (s : State) :
    writeIntStatus value s = { s with
      hbi := { s.hbi with
        protoCause := s.hbi.protoCause && !value.getLsbD 1
        readyCause := s.hbi.readyCause && !value.getLsbD 2 }
      cu := if value.getLsbD 0 = true then (clearCq s).cu else s.cu } := by
  unfold writeIntStatus
  cases value.getLsbD 0 <;> cases value.getLsbD 1 <;> cases value.getLsbD 2 <;> simp [clearCq_eq]

@[simp] theorem clearCq_queue (s : State) : (clearCq s).cu.queue = s.cu.queue := by
  rw [clearCq_eq]; dsimp only; split_ifs <;> rfl

@[simp] theorem clearCq_backlog (s : State) : (clearCq s).cu.backlog = s.cu.backlog := by
  rw [clearCq_eq]; dsimp only; split_ifs <;> rfl

theorem Entered.writeIntStatus (value : Word) (s : State) : Entered s (writeIntStatus value s) := by
  rw [writeIntStatus_eq]
  refine .of_cu rfl rfl rfl rfl ?_ ?_ ?_
  · dsimp only; split <;> simp
  · dsimp only; split <;> simp
  · intro h
    dsimp only
    split
    · exact bounded_clearCq h
    · exact h

theorem Entered.cqConfigWrite (value : Word) (s : State) : ∃ t, execCqConfigWrite value s = .next t ∧ Entered s t :=
  Entered.ite fun _ => .of_cu rfl rfl rfl rfl rfl rfl fun ⟨hqueue, hfull, _, _, htimer⟩ =>
    ⟨hqueue, hfull, (clampThreshold_bounds _).1, (clampThreshold_bounds _).2, htimer⟩

/-- R186, R187: the engine clear begins in RUN alone, in which the pin is released. -/
theorem Entered.writeControl (value : Word) (s : State) : Entered s (writeControl value s) := by
  unfold Machine.writeControl
  dsimp only
  split
  next hclear =>
    refine .of_ec (fun ⟨hinit, _⟩ => ⟨fun hpin => ?_, fun h => absurd rfl h⟩) (fun _ _ => rfl) rfl (.inl rfl) le_rfl rfl
    exact nomatch (hinit hpin).symm.trans hclear.2
  next _ => exact .of_ec id (fun hs ht => absurd ht hs) rfl (.inl rfl) le_rfl rfl

/-! ### The engine -/

theorem Entered.startUpSweepEnd (s : State) : ∃ t, execStartUpSweepEnd s = .next t ∧ Entered s t :=
  Entered.ite fun ⟨_, hpin⟩ => .of_ec (fun _ => ⟨fun h => by simp [enterRun, hpin] at h, fun _ => rfl⟩)
    (fun _ _ => rfl) rfl (.inl rfl) le_rfl rfl

theorem Entered.clearingSweepEnd (s : State) : ∃ t, execClearingSweepEnd s = .next t ∧ Entered s t :=
  Entered.ite fun ⟨hengine, _⟩ => .of_ec
    (fun hc => ⟨fun hpin => by simp [hc.1 hpin] at hengine, fun _ => rfl⟩) (fun _ _ => rfl) rfl (.inl rfl) le_rfl rfl

/-- R185: the pin is released; nothing else changes. -/
theorem Entered.resetRelease (s : State) : Entered s { s with ec.resetPin := false } :=
  .of_ec (fun ⟨_, hswept⟩ => ⟨fun h => (nomatch h), hswept⟩) (fun hs ht => absurd ht hs) rfl (.inl rfl) le_rfl rfl

/-- R187: in CLEARING any block may be marked swept. -/
theorem consistent_of_clearing {s t : State} (hengine : s.ec.engine = .clearing) (engine : t.ec.engine = s.ec.engine)
    (pin : t.ec.resetPin = s.ec.resetPin) (hc : s.ec.consistent) : t.ec.consistent :=
  ⟨fun hpin => engine.trans (hc.1 (pin ▸ hpin)), fun h => absurd (engine.trans hengine) h⟩

theorem Entered.sweepRss (s : State) : ∃ t, execSweepRss s = .next t ∧ Entered s t :=
  Entered.ite fun ⟨hs, _⟩ =>
    .of_ec (consistent_of_clearing hs.1 rfl rfl) (fun h => absurd hs.1 h) rfl (.inl rfl) le_rfl rfl

theorem Entered.sweepStreamTable (s : State) : ∃ t, execSweepStreamTable s = .next t ∧ Entered s t :=
  Entered.ite fun ⟨hs, _⟩ =>
    .of_ec (consistent_of_clearing hs.1 rfl rfl) (fun h => absurd hs.1 h) rfl (.inl rfl) (Nat.zero_le _) rfl

theorem Entered.sweepAbsorbPath (s : State) : ∃ t, execSweepAbsorbPath s = .next t ∧ Entered s t :=
  Entered.ite fun ⟨hs, _⟩ =>
    .of_ec (consistent_of_clearing hs.1 rfl rfl) (fun h => absurd hs.1 h) rfl (.inr rfl) le_rfl rfl

theorem Entered.sweepCtu (s : State) : ∃ t, execSweepCtu s = .next t ∧ Entered s t :=
  Entered.ite fun ⟨hs, _⟩ =>
    .of_ec (consistent_of_clearing hs.1 rfl rfl) (fun h => absurd hs.1 h) rfl (.inl rfl) le_rfl rfl

@[simp] theorem countCoalescing_ec (s : State) : (countCoalescing s).ec = s.ec := by
  unfold countCoalescing; split <;> [rfl; split <;> rfl]
@[simp] theorem countCoalescing_ou (s : State) : (countCoalescing s).ou = s.ou := by
  unfold countCoalescing; split <;> [rfl; split <;> rfl]

theorem Entered.countCoalescing (s : State) : Entered s (countCoalescing s) := by
  refine .of_cu (by simp) ?_ ?_ (by simp) ?_ ?_ bounded_countCoalescing
  all_goals unfold Machine.countCoalescing; split <;> [rfl; split <;> rfl]

theorem Entered.then_worked {s t u : State} (hst : Entered s t) (htu : Worked t u) : Entered s u where
  pending := htu.pending.trans hst.pending
  cu h := htu.entered.cu (hst.cu h)
  ec h := htu.entered.ec (hst.ec h)
  clear := htu.ec ▸ hst.clear
  burst b hb := (htu.burst b hb).elim (hst.burst b) .inr
  held h := htu.held (hst.held h)
  records := by
    obtain ⟨rs, hrs⟩ := hst.records
    obtain ⟨qs, hqs⟩ := htu.entered.records
    exact ⟨rs ++ qs, by rw [hqs, hrs, List.append_assoc]⟩

theorem Entered.tick (s : State) : ∃ t, execTick s = .next t ∧ Entered s t := by
  unfold execTick
  split
  · dsimp only
    split
    · exact ⟨_, rfl, (Entered.countCoalescing s).then_worked (.countGaps _ _)⟩
    · exact ⟨_, rfl, .countCoalescing s⟩
  · exact ⟨s, rfl, .refl s⟩

theorem Entered.coalescingTimerExpiry (s : State) : ∃ t, execCoalescingTimerExpiry s = .next t ∧ Entered s t :=
  Entered.ite fun _ => .of_cu rfl rfl rfl rfl rfl rfl bounded_raiseCq

/-! ### The commands by which records leave -/

/-- R166: a pop takes the head record, and a full queue is filled again from the Backlog. -/
theorem bounded_pop {cu : CompletionUnit} {r : Record} {rest : List Record} (h : cu.bounded) (hq : cu.queue = r :: rest)
    (hb : cu.backlog = []) : ({ cu with queue := rest } : CompletionUnit).bounded := by
  obtain ⟨hqueue, -, hlow, hhigh, htimer⟩ := cu.bounded_iff.1 h
  refine ⟨?_, fun hne => absurd hb hne, hlow, hhigh, htimer⟩
  simp only [hq, List.length_cons] at hqueue
  dsimp only; omega

theorem bounded_refill {cu : CompletionUnit} {r : Record} {rest : List Record} {e : BacklogEntry}
    {behind : List BacklogEntry} (h : cu.bounded) (hq : cu.queue = r :: rest) (hb : cu.backlog = e :: behind) :
    (({ cu with queue := rest, backlog := behind } : CompletionUnit).afterWrites [e.record]).bounded := by
  obtain ⟨-, hfull, hlow, hhigh, htimer⟩ := cu.bounded_iff.1 h
  have hlength : rest.length + 1 = Config.queueCapacity := by
    rw [← hfull (by simp [hb]), hq]; rfl
  refine (CompletionUnit.bounded_iff _).2
    ⟨?_, fun _ => ?_, ?_, ?_, timerBounded_afterWrites (cu := { cu with queue := rest, backlog := behind }) htimer _⟩
  · simp [hlength]
  · simp [hlength]
  · simpa using hlow
  · simpa using hhigh

theorem refillFromBacklog_nil {s : State} (h : s.cu.backlog = []) : refillFromBacklog s = s := by
  simp [refillFromBacklog, h]

theorem refillFromBacklog_cons {s : State} {e : BacklogEntry} {rest : List BacklogEntry}
    (h : s.cu.backlog = e :: rest) :
    refillFromBacklog s =
      returnToFreeQueue e.slot
        { s with cu := ({ s.cu with backlog := rest } : CompletionUnit).afterWrites [e.record] } := by
  simp [refillFromBacklog, h, writeRecord_eq]

theorem Kept.cqPop (value : Word) (s : State) : ∃ t, execCqPop value s = .next t ∧ Kept s t := by
  unfold execCqPop
  split
  · split
    · exact ⟨_, rfl, (Worked.protocolError _ _ s).entered.toKept⟩
    next r rest hq =>
      refine ⟨_, rfl, ?_⟩
      rcases hb : s.cu.backlog with _ | ⟨e, behind⟩
      · rw [refillFromBacklog_nil (by exact hb)]
        exact ⟨rfl, fun h => bounded_pop (cu := s.cu) h hq hb, id, fun hs ht => absurd ht hs, fun _ => .inl, id⟩
      · rw [refillFromBacklog_cons (by exact hb)]
        exact ⟨rfl, fun h => bounded_refill (cu := s.cu) h hq hb, id, fun hs ht => absurd ht hs, fun _ => .inl, id⟩
  · exact ⟨s, rfl, (Entered.refl s).toKept⟩

theorem Kept.sweepCu (s : State) : ∃ t, execSweepCu s = .next t ∧ Kept s t := by
  unfold execSweepCu
  split
  next hsweep =>
    refine ⟨_, rfl, rfl, fun ⟨_, _, hlow, hhigh, _⟩ => ?_, consistent_of_clearing hsweep.1.1 rfl rfl,
      fun h => absurd hsweep.1.1 h, fun _ => .inl, id⟩
    exact ⟨Nat.zero_le _, fun h => absurd rfl h, hlow, hhigh, timerBounded_of_none rfl⟩
  next _ => exact ⟨s, rfl, (Entered.refl s).toKept⟩

/-- R177: the Completion Unit at its power-on values is within its bounds. -/
theorem bounded_reset : CompletionUnit.reset.bounded :=
  ⟨by decide, fun h => absurd rfl h, by decide, by decide, timerBounded_of_none rfl⟩

/-- R194: Engine Control at its power-on values is in INIT with nothing swept. -/
theorem consistent_reset : EngineControl.reset.consistent := ⟨fun _ => rfl, fun _ => rfl⟩

theorem Kept.resetAssert (s : State) : ∃ t, execResetAssert s = .next t ∧ Kept s t :=
  ⟨_, rfl, rfl, fun _ => bounded_reset, fun _ => consistent_reset,
    fun _ h => (nomatch h), fun _ h => (nomatch h), fun _ => Nat.zero_le _⟩

/-! ### Every command -/

theorem Worked.unknownKind (s : State) : ∃ t, execUnknownKind s = .next t ∧ Worked s t :=
  Worked.dispatchTake (fun n s => .refuse n .badRequest s) _ s

/-- R163: every command but a pop, the sweep of the Completion Unit and RESET lets records enter at the end only. -/
theorem exec_entered (c : Instr) (s : State) (hpop : ∀ value, c ≠ .cqPop value) (hsweep : c ≠ .sweepCu)
    (hreset : c ≠ .resetAssert) : ∃ t, exec c s = .next t ∧ Entered s t := by
  cases c with
  | claim => exact Entered.of_worked (Worked.claim s)
  | returnSlot value => exact Entered.of_worked (Worked.returnSlot value s)
  | post value => exact Entered.of_worked (Worked.post value s)
  | slotWordWrite n k value => exact Entered.of_worked (Worked.slotWordWrite n k value s)
  | cqPop value => exact absurd rfl (hpop value)
  | dispatch value => exact Entered.ite fun _ => .writeControl value s
  | engineClear value => exact Entered.ite fun _ => .writeControl value s
  | timebaseWrite value => exact Entered.ite fun _ => .of_ec id (fun hs ht => absurd ht hs) rfl (.inl rfl) le_rfl rfl
  | cqConfigWrite value => exact Entered.cqConfigWrite value s
  | cqCauseClear value => exact Entered.ite fun _ => .writeIntStatus value s
  | protoCauseClear value => exact Entered.ite fun _ => .writeIntStatus value s
  | readyCauseClear value => exact Entered.ite fun _ => .writeIntStatus value s
  | intEnableWrite value => exact Entered.of_worked (Worked.ite fun _ => .of_frame rfl rfl rfl rfl le_rfl)
  | protoErrClear value => exact Entered.of_worked (Worked.ite fun _ => .of_frame rfl rfl rfl rfl le_rfl)
  | streamSelect value => exact Entered.of_worked (Worked.ite fun _ => .of_frame rfl rfl rfl rfl le_rfl)
  | digestSelect value => exact Entered.of_worked (Worked.ite fun _ => .of_frame rfl rfl rfl rfl le_rfl)
  | badWidth direction size offset => exact Entered.of_worked (Worked.badWidth direction size offset s)
  | badAddress direction offset => exact Entered.of_worked (Worked.badAddress direction offset s)
  | readOnly offset => exact Entered.of_worked (Worked.readOnly offset s)
  | resetAssert => exact absurd rfl hreset
  | resetRelease => exact ⟨_, rfl, .resetRelease s⟩
  | startUpSweepEnd => exact Entered.startUpSweepEnd s
  | sweepRss => exact Entered.sweepRss s
  | sweepStreamTable => exact Entered.sweepStreamTable s
  | sweepAbsorbPath => exact Entered.sweepAbsorbPath s
  | sweepCtu => exact Entered.sweepCtu s
  | sweepCu => exact absurd rfl hsweep
  | clearingSweepEnd => exact Entered.clearingSweepEnd s
  | tick => exact Entered.tick s
  | gapTimerExpiry h => exact Entered.of_worked (Worked.ite fun _ => .expireGap h s)
  | coalescingTimerExpiry => exact Entered.coalescingTimerExpiry s
  | openRequest => exact Entered.of_worked (Worked.dispatchTake Worked.openOutcome (· == 1) s)
  | fragmentRequest => exact Entered.of_worked (Worked.dispatchTake Worked.fragmentOutcome (· == 2) s)
  | abortRequest => exact Entered.of_worked (Worked.dispatchTake Worked.abortOutcome (· == 3) s)
  | releaseRequest => exact Entered.of_worked (Worked.dispatchTake Worked.releaseOutcome (· == 4) s)
  | exportRequest => exact Entered.of_worked (Worked.dispatchTake Worked.exportOutcome (· == 5) s)
  | importRequest => exact Entered.of_worked (Worked.dispatchTake Worked.importOutcome (· == 6) s)
  | unknownKind => exact Entered.of_worked (Worked.unknownKind s)
  | itemTake => exact Entered.of_worked (Worked.itemTake s)
  | burstOk lanes => exact Entered.of_worked (Worked.burstOk lanes s)
  | burstRetry => exact Entered.of_worked (Worked.burstRetry s)
  | retryLimit => exact Entered.of_worked (Worked.retryLimit s)
  | burstError => exact Entered.of_worked (Worked.burstError s)
  | drainEnd => exact Entered.of_worked (Worked.drainEnd s)
  | finalizationEnd => exact Entered.of_worked (Worked.finalizationEnd s)
  | faultReport => exact Entered.of_worked (Worked.faultReport s)
  | cutEnd => exact Entered.of_worked (Worked.cutEnd s)
  | transferStart => exact Entered.of_worked (Worked.transferStart s)

/-- Every command answers a next state, and keeps what `Kept` says. -/
theorem exec_kept (c : Instr) (s : State) : ∃ t, exec c s = .next t ∧ Kept s t := by
  by_cases hpop : ∃ value, c = .cqPop value
  · obtain ⟨value, rfl⟩ := hpop
    exact Kept.cqPop value s
  by_cases hsweep : c = .sweepCu
  · exact hsweep ▸ Kept.sweepCu s
  by_cases hreset : c = .resetAssert
  · exact hreset ▸ Kept.resetAssert s
  obtain ⟨t, hexec, hentered⟩ := exec_entered c s (fun value h => hpop ⟨value, h⟩) hsweep hreset
  exact ⟨t, hexec, hentered.toKept⟩

/-- A step is a command, or changes nothing: it keeps what every command keeps. -/
theorem step_kept {s t : State} (h : step s = .next t) :
    (s.cu.bounded → t.cu.bounded) ∧ (s.ec.consistent → t.ec.consistent) ∧
    (∀ b, t.bma.burst = some b → s.bma.burst = some b ∨ b.withinBlock) ∧
    (s.ou.heldCount ≤ Config.holdCap → t.ou.heldCount ≤ Config.holdCap) := by
  unfold step at h
  split at h
  · cases h
    exact ⟨id, id, fun _ => .inl, id⟩
  next c rest _ =>
    obtain ⟨u, hexec, hkept⟩ := exec_kept c { s with pending := rest }
    obtain rfl : u = t := by simpa [hexec] using h
    exact ⟨hkept.cu, hkept.ec, hkept.burst, hkept.held⟩

/-! ### The statements -/

/-- Settles O57. -/
theorem completionUnitStaysBounded : Obligations.CompletionUnitStaysBounded :=
  fun _ _ hbounded hstep => (step_kept hstep).1 hbounded

/-- Settles O58. -/
theorem engineAndBusStayConsistent : Obligations.EngineAndBusStayConsistent := by
  rintro s t ⟨hec, hburst, hheld⟩ hstep
  obtain ⟨-, kec, kburst, kheld⟩ := step_kept hstep
  exact ⟨kec hec, fun b hb => (kburst b hb).elim (hburst b) id, kheld hheld⟩

/-- Settles O2. -/
theorem everyCommandAnswersNext : Obligations.EveryCommandAnswersNext := by
  intro c s
  obtain ⟨t, hexec, hkept⟩ := exec_kept c s
  exact ⟨t, hexec, hkept.pending⟩

/-- Settles O59. -/
theorem recordsEnterInOrder : Obligations.RecordsEnterInOrder := by
  intro c s t hexec hpop hsweep hreset
  obtain ⟨u, hexec', hentered⟩ := exec_entered c s hpop hsweep hreset
  obtain rfl : u = t := by simpa [hexec'] using hexec
  exact hentered.records

end Sys2Proof.Machine
end

section
/-! PROOF. Where the slots are (R79): slots leave a place, are for a moment in none, and enter another.
`State.placedBut`
is `State.placed` with some slots under way, and `placedBut_move` the one rule by which slots leave and enter. -/

namespace Sys2Proof.Machine

/-! ### Slots under way -/

/-- R79 in the middle of a happening: the slots given are in no place, and all else is placed. -/
def State.placedBut (s : State) (moving : List SlotId) : Prop :=
  (moving ++ s.places.map Prod.fst).Nodup ∧ ∀ p ∈ s.places, s.slotState p.1 = p.2

theorem placedBut_nil (s : State) : s.placedBut [] ↔ s.placed := Iff.rfl

theorem State.placedBut.perm {s : State} {ms ns : List SlotId} (h : s.placedBut ms) (hp : ns.Perm ms) :
    s.placedBut ns :=
  ⟨((hp.append_right _).nodup_iff).2 h.1, h.2⟩

theorem slotState_markSlots (s t : State) (ns : List SlotId) (st : SlotState)
    (h : t.rss.states = markSlots s.rss.states ns st) (m : SlotId) :
    t.slotState m = if m ∈ ns then st else s.slotState m := by
  unfold State.slotState
  rw [h]
  clear h
  generalize s.rss.states = states
  unfold markSlots
  induction ns generalizing states with
  | nil => simp
  | cons n ns ih =>
    rw [List.foldl_cons, ih]
    by_cases hm : m ∈ ns
    · simp [hm]
    · by_cases hn : m = n
      · subst hn; simp
      · have hne : n.val ≠ m.val := fun h => hn (Fin.ext h.symm)
        simp [hm, hn, hne]

theorem nodup_of_subperm {α : Type} {l₁ l₂ : List α} (h : l₁.Subperm l₂) (hn : l₂.Nodup) : l₁.Nodup := by
  obtain ⟨l, hperm, hsub⟩ := h
  exact hperm.nodup_iff.1 (hn.sublist hsub)

theorem map_subperm {α β : Type} (f : α → β) {l₁ l₂ : List α} (h : l₁.Subperm l₂) : (l₁.map f).Subperm (l₂.map f) := by
  obtain ⟨l, hperm, hsub⟩ := h
  exact ⟨l.map f, hperm.map f, hsub.map f⟩

/-- R79, R80: the slots `ns`, which are under way, enter places in the state `st`; the entries `gone` leave their
places, and their slots are under way; the slots `ms` stay under way. A place may also be emptied with its slot
forgotten. -/
theorem placedBut_move {s t : State} {ns ms : List SlotId} {st : SlotState} {gone : List (SlotId × SlotState)}
    (h : s.placedBut (ns ++ ms)) (states : t.rss.states = markSlots s.rss.states ns st)
    (places : (gone ++ t.places).Subperm (ns.map (·, st) ++ s.places)) :
    t.placedBut (gone.map Prod.fst ++ ms) := by
  obtain ⟨hnodup, hstates⟩ := h
  have hin : (ns ++ s.places.map Prod.fst).Nodup :=
    hnodup.sublist (by rw [List.append_assoc]; exact (List.sublist_append_right ms _).append_left ns)
  constructor
  · have hfst := map_subperm Prod.fst places
    simp only [List.map_append, List.map_map, Function.comp_def, List.map_id'] at hfst
    have hms : (ms ++ (ns ++ s.places.map Prod.fst)).Nodup := by
      refine (List.Perm.nodup_iff ?_).1 hnodup
      rw [List.append_assoc]
      exact List.perm_append_comm_assoc ns ms _
    refine nodup_of_subperm ?_ hms
    refine (List.Perm.subperm ?_).trans ((List.Subperm.refl ms).append hfst)
    rw [List.append_assoc]
    exact List.perm_append_comm_assoc _ ms _
  · intro p hp
    rw [slotState_markSlots s t ns st states]
    rcases List.mem_append.1 (places.subset (List.mem_append_right _ hp)) with hp' | hp'
    · obtain ⟨n, hn, rfl⟩ := List.mem_map.1 hp'
      simp [hn]
    · have hnot : p.1 ∉ ns := fun hmem =>
        (List.nodup_append.1 hin).2.2 _ hmem _ (List.mem_map_of_mem hp') rfl
      rw [if_neg hnot]
      exact hstates p hp'

/-- Slots leave their places. -/
theorem placedBut_leave {s t : State} {ms : List SlotId} (gone : List (SlotId × SlotState)) (h : s.placedBut ms)
    (states : t.rss.states = s.rss.states) (places : (gone ++ t.places).Subperm s.places) :
    t.placedBut (gone.map Prod.fst ++ ms) :=
  placedBut_move (ns := []) (st := .free) h states (by simpa using places)

/-- Nothing leaves or enters, but that a place may be emptied. -/
theorem placedBut_keep {s t : State} {ms : List SlotId} (h : s.placedBut ms) (states : t.rss.states = s.rss.states)
    (places : t.places.Subperm s.places) : t.placedBut ms :=
  placedBut_leave [] h states places

/-- Slots enter places. -/
theorem placedBut_enter {s t : State} (ns : List SlotId) {ms : List SlotId} (st : SlotState)
    (h : s.placedBut (ns ++ ms))
    (states : t.rss.states = markSlots s.rss.states ns st)
    (places : t.places.Subperm (ns.map (·, st) ++ s.places)) : t.placedBut ms :=
  placedBut_move (gone := []) h states (by simpa using places)

/-! ### The same places -/

/-- The two states have the same slots in the same places, under the same slot states. -/
structure SamePlaces (s t : State) : Prop where
  states : t.rss.states = s.rss.states
  places : t.places = s.places

theorem SamePlaces.refl (s : State) : SamePlaces s s := ⟨rfl, rfl⟩

theorem SamePlaces.trans {s t u : State} (hst : SamePlaces s t) (htu : SamePlaces t u) : SamePlaces s u :=
  ⟨htu.states.trans hst.states, htu.places.trans hst.places⟩

theorem SamePlaces.placedBut {s t : State} (h : SamePlaces s t) {ms : List SlotId} (hs : s.placedBut ms) :
    t.placedBut ms := placedBut_keep hs h.states (h.places ▸ List.Subperm.refl _)

theorem SamePlaces.placed {s t : State} (h : SamePlaces s t) (hs : s.placed) : t.placed := h.placedBut (ms := []) hs

theorem SamePlaces.grantFetch {s : State} {item : ActiveItem} (ha : s.ap.active = some item) :
    SamePlaces s (grantFetch item s) := ⟨rfl, by simp [State.places, Machine.grantFetch, ha]⟩

theorem SamePlaces.grantCtu {s : State} {a : ActiveTransfer} (ha : s.ctu.active = some a) :
    SamePlaces s (grantCtu a s) := ⟨rfl, by simp [State.places, Machine.grantCtu, ha]⟩

theorem SamePlaces.arbitrate (s : State) : SamePlaces s (arbitrate s) := by
  rcases arbitrate_cases s with h | ⟨item, ha, _, _, _, h⟩ | ⟨a, ha, _, _, _, h⟩ <;> rw [h]
  · exact .refl s
  · exact .grantFetch ha
  · exact .grantCtu ha

theorem SamePlaces.endBurst (s : State) : SamePlaces s (endBurst s) :=
  SamePlaces.trans (t := { s with bma.burst := none }) ⟨rfl, rfl⟩ (.arbitrate _)

theorem SamePlaces.requestFetch (s : State) : SamePlaces s (requestFetch s) := by
  rcases requestFetch_cases s with h | h <;> rw [h]
  · exact .refl s
  · exact SamePlaces.trans (t := { s with bma.fetchWaiting := true }) ⟨rfl, rfl⟩ (.arbitrate _)

theorem SamePlaces.requestCtu (s : State) : SamePlaces s (requestCtu s) :=
  SamePlaces.trans (t := { s with bma.ctuWaiting := true }) ⟨rfl, rfl⟩ (.arbitrate _)

theorem SamePlaces.beginDrain (s : State) : SamePlaces s (beginDrain s) :=
  ⟨by simp, by simp [State.places]⟩

theorem SamePlaces.examineAbsorbPath (s : State) : SamePlaces s (examineAbsorbPath s) :=
  (SamePlaces.beginDrain s).trans (.requestFetch _)

theorem SamePlaces.cutActive (h : Handle) (s : State) : SamePlaces s (cutActive h s) := by
  unfold Machine.cutActive
  split
  next item ha =>
    split
    · exact ⟨rfl, by simp [State.places, ha, AbsorbPath.discard]⟩
    · exact .refl s
  · exact .refl s

/-! ### The places by parts -/

theorem subperm_of_count {l₁ l₂ : List (SlotId × SlotState)} (h : ∀ p, l₁.count p ≤ l₂.count p) : l₁.Subperm l₂ :=
  List.subperm_ext_iff.2 fun p _ => h p

/-- R79: the places that the Stream Table gives: those of the held fragments. -/
def heldPlaces (streams : Vector StreamContext 64) : List (SlotId × SlotState) :=
  (streams.toList.flatMap (·.holdList)).map (·, SlotState.held)

/-- R79: those of the pending controls. -/
def waitingPlaces (streams : Vector StreamContext 64) : List (SlotId × SlotState) :=
  (streams.toList.filterMap (·.pendingControl)).map (·, SlotState.waiting)

/-- How often an entry stands among the places, part by part. -/
theorem count_places (s : State) (p : SlotId × SlotState) :
    s.places.count p =
      (s.rss.freeQueue.map (·, SlotState.free)).count p + (s.rss.postQueue.map (·, SlotState.posted)).count p +
      (heldPlaces s.ou.streams).count p + (waitingPlaces s.ou.streams).count p +
      (s.ap.readyQueue.map fun i => (i.slot, SlotState.ready)).count p +
      (s.ap.active.toList.map fun i => (i.slot, SlotState.active)).count p +
      (s.ctu.queue.map fun t => (t.slot, SlotState.waiting)).count p +
      (s.ctu.active.toList.map fun t => (t.transfer.slot, SlotState.active)).count p +
      (s.cu.backlog.map fun e => (e.slot, SlotState.backlog)).count p := by
  simp only [State.places, heldPlaces, waitingPlaces, List.count_append]

/-- What a table lists, with one entry changed: the entry's list in place of the old one's. -/
theorem flatMap_set_perm {α β : Type} {n : Nat} (v : Vector α n) (i : Fin n) (c : α) (f : α → List β) :
    (f v[i] ++ (v.set i c).toList.flatMap f).Perm (f c ++ v.toList.flatMap f) := by
  have hlt : i.val < v.toList.length := by simp
  have hsplit : v.toList = v.toList.take i ++ v[i] :: v.toList.drop (i + 1) := by
    conv_lhs => rw [← List.take_append_drop i.val v.toList, List.drop_eq_getElem_cons hlt]
    simp
  have hset : (v.set i c).toList = v.toList.take i ++ c :: v.toList.drop (i + 1) := by
    rw [Vector.toList_set, List.set_eq_take_append_cons_drop, if_pos hlt]
  rw [hset]
  conv_rhs => rw [hsplit]
  classical
  rw [List.perm_iff_count]
  intro b
  simp only [List.flatMap_append, List.flatMap_cons, List.count_append]
  omega

theorem heldPlaces_set (streams : Vector StreamContext 64) (h : Handle) (c : StreamContext) (p : SlotId × SlotState) :
    ((streams[h].holdList).map (·, SlotState.held)).count p + (heldPlaces (streams.set h c)).count p =
      (c.holdList.map (·, SlotState.held)).count p + (heldPlaces streams).count p := by
  have hperm := (flatMap_set_perm streams h c (·.holdList)).map (·, SlotState.held)
  simpa only [heldPlaces, List.map_append, List.count_append] using List.perm_iff_count.1 hperm p

theorem waitingPlaces_set (streams : Vector StreamContext 64) (h : Handle) (c : StreamContext)
    (p : SlotId × SlotState) :
    ((streams[h].pendingControl).toList.map (·, SlotState.waiting)).count p +
        (waitingPlaces (streams.set h c)).count p =
      (c.pendingControl.toList.map (·, SlotState.waiting)).count p + (waitingPlaces streams).count p := by
  have hperm := (flatMap_set_perm streams h c (·.pendingControl.toList)).map (·, SlotState.waiting)
  have hflat (v : Vector StreamContext 64) :
      v.toList.flatMap (·.pendingControl.toList) = v.toList.filterMap (·.pendingControl) := by
    rw [List.filterMap_eq_flatMap_toList]
  rw [hflat, hflat] at hperm
  simpa only [waitingPlaces, List.map_append, List.count_append] using List.perm_iff_count.1 hperm p

end Sys2Proof.Machine
end

section
/-! PROOF. How each shared operation moves slots: which it takes off their places, and which it sets down. -/

namespace Sys2Proof.Machine

/-! ### Endings (R94, R162) -/

theorem placedBut_ending {s : State} {r : Record} {ms : List SlotId} (h : s.placedBut (r.slot :: ms)) :
    (s.afterEndings [r]).placedBut ms := by
  by_cases hroom : s.cu.room = 0
  · rw [State.afterEndings_full _ _ hroom]
    refine placedBut_enter [r.slot] .backlog h rfl (subperm_of_count fun p => ?_)
    simp only [count_places, List.count_append, List.map_append, List.map_cons, List.map_nil]
    omega
  · rw [State.afterEndings_one _ _ hroom]
    refine placedBut_enter [r.slot] .free h rfl (subperm_of_count fun p => ?_)
    simp only [count_places, List.count_append, List.map_append, List.map_cons, List.map_nil,
      CompletionUnit.afterWrites_backlog]
    omega

/-- R94: the slots of requests that end go to the Free Queue or the Backlog. -/
theorem placedBut_afterEndings {s : State} (rs : List Record) {ms : List SlotId}
    (h : s.placedBut (rs.map (·.slot) ++ ms)) : (s.afterEndings rs).placedBut ms := by
  induction rs generalizing s with
  | nil => simpa using h
  | cons r rs ih =>
    rw [State.afterEndings_cons]
    exact ih (placedBut_ending h)

theorem placedBut_complete {s : State} {n : SlotId} {ms : List SlotId} (status : Status) (named : Option StreamRef)
    (h : s.placedBut (n :: ms)) : (complete n status named s).placedBut ms := by
  rw [complete_eq]
  exact placedBut_ending h

theorem placedBut_completeAll {s : State} (endings : List Ending) (named : StreamRef) {ms : List SlotId}
    (h : s.placedBut (endings.map (·.1) ++ ms)) : (completeAll endings named s).placedBut ms := by
  rw [completeAll_eq]
  refine placedBut_afterEndings _ ?_
  rwa [List.map_map]

/-! ### Streams -/

/-- A context is replaced: held fragments and a pending control that it no longer has are under way. -/
theorem placedBut_setStream {s : State} {ms : List SlotId} (h : Handle) (c : StreamContext) (held : List SlotId)
    (waiting : Option SlotId) (hs : s.placedBut ms) (hheld : (held ++ c.holdList).Subperm (s.stream h).holdList)
    (hwaiting : (waiting.toList ++ c.pendingControl.toList).Subperm (s.stream h).pendingControl.toList) :
    (s.setStream h c).placedBut (held ++ waiting.toList ++ ms) := by
  have hleave := placedBut_leave (t := s.setStream h c)
    (held.map (·, SlotState.held) ++ waiting.toList.map (·, SlotState.waiting)) hs rfl
    (subperm_of_count fun p => ?_)
  · simpa [Function.comp_def] using hleave
  · have h1 := (map_subperm (·, SlotState.held) hheld).count_le p
    have h2 := (map_subperm (·, SlotState.waiting) hwaiting).count_le p
    have h3 := heldPlaces_set s.ou.streams h c p
    have h4 := waitingPlaces_set s.ou.streams h c p
    simp only [List.map_append, List.count_append, State.stream] at h1 h2
    simp only [count_places, List.count_append, State.setStream]
    omega

/-- A context keeps its held fragments and its pending control, or forgets them. -/
theorem placedBut_setStream_keep {s : State} {ms : List SlotId} (h : Handle) (c : StreamContext) (hs : s.placedBut ms)
    (hheld : c.holdList = (s.stream h).holdList ∨ c.holdList = [])
    (hwaiting : c.pendingControl = (s.stream h).pendingControl ∨ c.pendingControl = none) :
    (s.setStream h c).placedBut ms := by
  refine placedBut_setStream h c [] none hs ?_ ?_
  · rcases hheld with hc | hc <;> simp [hc, List.Subperm.refl, List.nil_subperm]
  · rcases hwaiting with hc | hc <;> simp [hc, List.Subperm.refl, List.nil_subperm]

theorem placedBut_updateStream {s : State} {ms : List SlotId} (h : Handle) (f : StreamContext → StreamContext)
    (hs : s.placedBut ms) (hheld : ∀ c, (f c).holdList = c.holdList)
    (hwaiting : ∀ c, (f c).pendingControl = c.pendingControl) : (s.updateStream h f).placedBut ms :=
  placedBut_setStream_keep h _ hs (.inl (hheld _)) (.inl (hwaiting _))

/-- R23: a stream that is freed forgets what it held. -/
theorem placedBut_freeStream {s : State} {ms : List SlotId} (h : Handle) (hs : s.placedBut ms) :
    (freeStream h s).placedBut ms := placedBut_setStream_keep h _ hs (.inr rfl) (.inr rfl)

/-- R67: the pending control of a stream that is freed is under way. -/
theorem placedBut_freeStream_waiting {s : State} {ms : List SlotId} {h : Handle} {p : SlotId}
    (hp : (s.stream h).pendingControl = some p) (hs : s.placedBut ms) : (freeStream h s).placedBut (p :: ms) := by
  refine placedBut_setStream h _ [] (some p) hs ?_ ?_
  · exact List.nil_subperm
  · simp [freeContext, hp, List.Subperm.refl]

/-! ### Entering the queues -/

theorem placedBut_joinReadyQueue {s : State} {n : SlotId} {ms : List SlotId} (h : Handle) (kind : ItemKind)
    (hs : s.placedBut (n :: ms)) : (joinReadyQueue n h kind s).placedBut ms := by
  refine placedBut_enter [n] .ready hs rfl (subperm_of_count fun p => ?_)
  simp only [count_places, joinReadyQueue, State.setSlot, List.count_append, List.map_append, List.map_cons,
    List.map_nil]
  omega

theorem placedBut_joinTransferQueue {s : State} {n : SlotId} {ms : List SlotId} (h : Handle) (kind : TransferKind)
    (hs : s.placedBut (n :: ms)) : (joinTransferQueue n h kind s).placedBut ms := by
  refine placedBut_enter [n] .waiting hs rfl (subperm_of_count fun p => ?_)
  simp only [count_places, joinTransferQueue, State.setSlot, List.count_append, List.map_append, List.map_cons,
    List.map_nil]
  omega

theorem placedBut_waitAsControl {s : State} {n : SlotId} {ms : List SlotId} (h : Handle)
    (hs : s.placedBut (n :: ms)) : (waitAsControl n h s).placedBut ms := by
  refine placedBut_enter [n] .waiting hs rfl (subperm_of_count fun p => ?_)
  have hheld := heldPlaces_set s.ou.streams h { s.stream h with pendingControl := some n } p
  have hwaiting := waitingPlaces_set s.ou.streams h { s.stream h with pendingControl := some n } p
  simp only [State.stream, Option.toList_some] at hheld hwaiting
  simp only [count_places, waitAsControl, State.updateStream, State.setStream, State.setSlot, State.stream,
    List.count_append]
  omega

theorem placedBut_returnToFreeQueue {s : State} {n : SlotId} {ms : List SlotId} (hs : s.placedBut (n :: ms)) :
    (returnToFreeQueue n s).placedBut ms := by
  refine placedBut_enter [n] .free hs rfl (subperm_of_count fun p => ?_)
  simp only [count_places, returnToFreeQueue, State.setSlot, List.count_append, List.map_append, List.map_cons,
    List.map_nil]
  omega

theorem placedBut_joinPostQueue {s : State} {n : SlotId} {ms : List SlotId} (hs : s.placedBut (n :: ms)) :
    (joinPostQueue n s).placedBut ms := by
  refine placedBut_enter [n] .posted hs rfl (subperm_of_count fun p => ?_)
  simp only [count_places, joinPostQueue, State.setSlot, List.count_append, List.map_append, List.map_cons,
    List.map_nil]
  omega

/-! ### The end of an item and the teardown -/

/-- R107: the slot of the active item is under way. -/
theorem placedBut_dropActive {s : State} {ms : List SlotId} {item : ActiveItem} (h : Handle)
    (ha : s.ap.active = some item) (hs : s.placedBut ms) : (dropActive h s).placedBut (item.slot :: ms) := by
  have hdrop : (s.updateStream h fun c => { c with inFlight := c.inFlight - 1 }).placedBut ms :=
    placedBut_updateStream h _ hs (fun _ => rfl) (fun _ => rfl)
  refine placedBut_leave [(item.slot, .active)] hdrop rfl (subperm_of_count fun p => ?_)
  simp only [count_places, dropActive, State.updateStream, State.setStream, ha, List.count_append,
    Option.toList_some, Option.toList_none, List.map_cons, List.map_nil, List.count_nil]
  omega

/-- R54: the stream of an item that ends has one item less in flight. -/
@[simp] theorem stream_dropActive (s : State) (h k : Handle) :
    (dropActive h s).stream k =
      if h = k then { s.stream h with inFlight := (s.stream h).inFlight - 1 } else s.stream k :=
  stream_updateStream s h k fun c => { c with inFlight := c.inFlight - 1 }

theorem count_filter_split (l : List ReadyItem) (h : Handle) (p : SlotId × SlotState) :
    ((l.filter (·.stream == h)).map fun i => (i.slot, SlotState.ready)).count p +
        ((l.filter (·.stream != h)).map fun i => (i.slot, SlotState.ready)).count p =
      (l.map fun i => (i.slot, SlotState.ready)).count p := by
  have hperm := (List.filter_append_perm (·.stream == h) l).map fun i => (i.slot, SlotState.ready)
  simpa only [List.map_append, List.count_append, bne] using List.perm_iff_count.1 hperm p

/-- R62: the slots of the items dropped and of the fragments held are under way. -/
theorem placedBut_removeWork {s : State} {ms : List SlotId} (h : Handle) (st : Status) (hs : s.placedBut ms) :
    (removeWork h s).placedBut ((removedWork h st s).map (·.1) ++ ms) := by
  have hleave := placedBut_leave (t := removeWork h s)
    ((s.ap.readyQueue.filter (·.stream == h)).map (fun i => (i.slot, SlotState.ready)) ++
      (s.stream h).holdList.map (·, SlotState.held)) hs rfl (subperm_of_count fun p => ?_)
  · simpa [removedWork, Function.comp_def] using hleave
  · have hheld := heldPlaces_set s.ou.streams h ((removeWork h s).stream h) p
    have hwaiting := waitingPlaces_set s.ou.streams h ((removeWork h s).stream h) p
    have hready := count_filter_split s.ap.readyQueue h p
    simp only [removeWork, State.setStream, State.stream, Fin.getElem_fin, Vector.getElem_set_self, List.map_nil,
      List.count_nil] at hheld hwaiting
    simp only [count_places, removeWork, State.setStream, State.stream, Fin.getElem_fin, List.count_append]
    omega

/-- R64, R67: an item that ends ABANDONED, and the control that waited for it, leave their places and complete. -/
theorem placed_abandonActive {s : State} {item : ActiveItem} (ha : s.ap.active = some item) (hs : s.placed) :
    (abandonActive item s).placed := by
  rw [← placedBut_nil]
  have hdrop := placedBut_dropActive item.stream ha ((placedBut_nil s).2 hs)
  unfold abandonActive
  dsimp only
  split
  next p hp =>
    have hfree := (placedBut_freeStream_waiting hp hdrop).perm (List.Perm.swap p item.slot [])
    exact placedBut_completeAll [(item.slot, .abandoned), (p, .ok)] _ hfree
  · exact placedBut_completeAll [(item.slot, .abandoned)] _ hdrop

/-- R61, R62: an item that fails, and the work of its stream, leave their places and complete. -/
theorem placed_faultStream {s : State} {item : ActiveItem} (failure : BusFailure) (ha : s.ap.active = some item)
    (hs : s.placed) : (faultStream item failure s).placed := by
  rw [← placedBut_nil]
  have hdrop := placedBut_dropActive item.stream ha ((placedBut_nil s).2 hs)
  have hwork : removedWork item.stream .abandoned (dropActive item.stream s) =
      removedWork item.stream .abandoned s := by
    simp [removedWork]
  have hremove := placedBut_removeWork item.stream .abandoned hdrop
  rw [hwork] at hremove
  refine placedBut_completeAll _ _ ?_
  refine placedBut_updateStream item.stream _ ?_ (fun _ => rfl) (fun _ => rfl)
  simpa using hremove

/-- R60, R62: a stream whose gap timer expires: its work leaves its places and completes. -/
theorem placed_expireGap {s : State} (h : Handle) (hs : s.placed) : (expireGap h s).placed := by
  rw [← placedBut_nil]
  have hremove := placedBut_removeWork h .gapTimeout ((placedBut_nil s).2 hs)
  refine placedBut_completeAll _ _ ?_
  exact placedBut_updateStream h _ ((SamePlaces.cutActive h _).placedBut hremove) (fun _ => rfl) (fun _ => rfl)

end Sys2Proof.Machine
end

section
/-! PROOF. Every happening of the Dispatcher, of the Absorb Path, of the Digest Core, of the CTU and of the gap timers
moves slots from place to place and loses none twice (R79). -/

namespace Sys2Proof.Machine

/-! ### The takes of the Dispatcher -/

theorem placedBut_openOutcome {s : State} {n : SlotId} (hs : s.placedBut [n]) : (openOutcome n s).placedBut [] := by
  unfold openOutcome
  split
  · exact placedBut_complete _ _ hs
  next alg h _ _ _ =>
    have hset := placedBut_setStream_keep h (openedContext s n alg ((s.stream h).generation + 1))
      hs (.inr rfl) (.inr rfl)
    dsimp only
    split
    · exact placedBut_joinReadyQueue h .finalizeOnly hset
    · exact placedBut_complete _ _ hset
  · exact placedBut_complete _ _ hs

/-- R39: promotion takes the front of the hold list. -/
theorem promote_append (s : State) (start : Nat) (ms : List SlotId) :
    (promote s start ms).1 ++ (promote s start ms).2.1 = ms := by
  induction ms generalizing start with
  | nil => rfl
  | cons m ms ih =>
    unfold promote
    split
    · simp [ih]
    · rfl

/-- R38, R39: the fragment and those promoted with it become READY, the rest stay held. -/
theorem placedBut_acceptInOrder {s : State} {n : SlotId} (h : Handle) (hs : s.placedBut [n]) :
    (acceptInOrder n h s).placedBut [] := by
  unfold acceptInOrder
  dsimp only
  have hsplit := promote_append s ((s.stream h).frontier + s.fragmentLength n) (s.stream h).holdList
  revert hsplit
  generalize promote s ((s.stream h).frontier + s.fragmentLength n) (s.stream h).holdList = outcome
  obtain ⟨promoted, left, reached⟩ := outcome
  intro hsplit
  rw [setSlots_eq]
  generalize declaredEndAfter s n (s.stream h) = declaredEnd
  have hleave := placedBut_setStream h { s.stream h with
      state := if declaredEnd = some reached then .ending else (s.stream h).state
      frontier := reached, declaredEnd := declaredEnd, holdList := left
      inFlight := (s.stream h).inFlight + 1 + promoted.length
      gapTimer := if left = [] then none else loadedTimer (s.stream h).gapTimeout } promoted none hs
    (hsplit ▸ List.Subperm.refl _) (List.Subperm.refl _)
  have hmoving := hleave.perm (ns := n :: promoted ++ []) (by simpa using (List.perm_append_singleton n promoted).symm)
  refine placedBut_enter (n :: promoted) .ready hmoving rfl (subperm_of_count fun p => ?_)
  simp only [count_places, State.setStream, State.stream, List.count_append, List.map_append, List.map_map,
    Function.comp_def]
  omega

/-- R43: inserting adds one entry. -/
theorem insertHeld_perm (s : State) (n : SlotId) (ms : List SlotId) : (insertHeld s n ms).Perm (n :: ms) := by
  induction ms with
  | nil => exact .refl _
  | cons m ms ih =>
    unfold insertHeld
    split
    · exact .refl _
    · exact (ih.cons m).trans (.swap n m ms)

theorem placedBut_holdFragment {s : State} {n : SlotId} (h : Handle) (hs : s.placedBut [n]) :
    (holdFragment n h s).placedBut [] := by
  refine placedBut_enter [n] .held hs rfl (subperm_of_count fun p => ?_)
  have hinsert := ((insertHeld_perm s n (s.stream h).holdList).map (·, SlotState.held)).count_eq p
  have hheld := heldPlaces_set s.ou.streams h ((holdFragment n h s).stream h) p
  have hwaiting := waitingPlaces_set s.ou.streams h ((holdFragment n h s).stream h) p
  simp only [holdFragment, State.setStream, State.setSlot, State.stream, Fin.getElem_fin, Vector.getElem_set_self]
    at hheld hwaiting hinsert
  rw [List.map_cons, ← List.singleton_append, List.count_append] at hinsert
  simp only [count_places, holdFragment, State.setStream, State.setSlot, State.stream, Fin.getElem_fin,
    List.count_append, List.map_cons, List.map_nil]
  omega

theorem placedBut_fragmentOutcome {s : State} {n : SlotId} (hs : s.placedBut [n]) :
    (fragmentOutcome n s).placedBut [] := by
  unfold fragmentOutcome
  split
  · exact placedBut_complete _ _ hs
  · exact placedBut_complete _ _ hs
  next h _ => exact placedBut_acceptInOrder h hs
  next h _ => exact placedBut_holdFragment h hs

theorem placedBut_releaseStream {s : State} {n : SlotId} (h : Handle) (hs : s.placedBut [n]) :
    (releaseStream n h s).placedBut [] := by
  unfold releaseStream
  split
  · exact placedBut_complete _ _ (placedBut_freeStream h hs)
  · split
    · exact placedBut_complete _ _ (placedBut_freeStream h hs)
    · exact placedBut_waitAsControl h hs
  · exact placedBut_complete _ _ hs

/-- R68, R62: the work of the stream leaves its places and completes; the ABORT completes after it or waits. -/
theorem placedBut_tearDownForAbort {s : State} {n : SlotId} (h : Handle) (hs : s.placedBut [n]) :
    (tearDownForAbort n h s).placedBut [] := by
  have hremove := placedBut_removeWork h .abandoned hs
  unfold tearDownForAbort
  dsimp only
  split
  · refine placedBut_completeAll _ _ (placedBut_waitAsControl h ?_)
    refine placedBut_updateStream h _ ((SamePlaces.cutActive h _).placedBut ?_) (fun _ => rfl) (fun _ => rfl)
    exact hremove.perm (by simpa using (List.perm_append_singleton n _).symm)
  · refine placedBut_completeAll _ _ (placedBut_freeStream h ?_)
    simpa using hremove

theorem placedBut_abortOutcome {s : State} {n : SlotId} (hs : s.placedBut [n]) : (abortOutcome n s).placedBut [] := by
  unfold abortOutcome
  split
  · exact placedBut_complete _ _ hs
  · exact placedBut_complete _ _ hs
  next h _ =>
    split
    · exact placedBut_tearDownForAbort h hs
    · exact placedBut_tearDownForAbort h hs
    · exact placedBut_releaseStream h hs

theorem placedBut_releaseOutcome {s : State} {n : SlotId} (hs : s.placedBut [n]) :
    (releaseOutcome n s).placedBut [] := by
  unfold releaseOutcome
  split
  · exact placedBut_complete _ _ hs
  · exact placedBut_complete _ _ hs
  next h _ => exact placedBut_releaseStream h hs

theorem placedBut_exportOutcome {s : State} {n : SlotId} (hs : s.placedBut [n]) :
    (exportOutcome n s).placedBut [] := by
  unfold exportOutcome
  split
  · exact placedBut_complete _ _ hs
  next h _ =>
    split
    · exact placedBut_complete _ _ hs
    · split
      · exact placedBut_complete _ _ hs
      · dsimp only
        split
        · exact placedBut_complete _ _ hs
        · split
          · exact placedBut_complete _ _ hs
          · exact placedBut_joinTransferQueue h .exporting (placedBut_setStream_keep h _ hs (.inl rfl) (.inl rfl))

theorem placedBut_importOutcome {s : State} {n : SlotId} (hs : s.placedBut [n]) :
    (importOutcome n s).placedBut [] := by
  unfold importOutcome
  split
  · exact placedBut_complete _ _ hs
  · split
    · exact placedBut_complete _ _ hs
    · split
      · exact placedBut_complete _ _ hs
      next h _ =>
        exact placedBut_joinTransferQueue h .importing (placedBut_setStream_keep h _ hs (.inr rfl) (.inr rfl))

/-- R89, R90: the head slot leaves the Post Queue, and the outcome of its request sets it down. -/
theorem placed_dispatchTake {request : SlotId → State → State}
    (hr : ∀ {n s}, State.placedBut s [n] → (request n s).placedBut []) {kind : Byte → Bool} {s t : State}
    (hs : s.placed) (ht : dispatchTake kind request s = .next t) : t.placed := by
  unfold dispatchTake at ht
  split at ht
  · split at ht
    · cases ht; exact hs
    next n rest hq =>
      split at ht
      · cases ht
        have hleave := placedBut_leave (t := { s with rss.postQueue := rest }) [(n, .posted)] ((placedBut_nil s).2 hs)
          rfl (subperm_of_count fun p => by
            simp only [count_places, hq, List.count_append, List.map_cons, List.count_cons, List.count_nil]
            omega)
        exact (placedBut_nil _).1 (hr hleave)
      · cases ht; exact hs
  · cases ht; exact hs

/-! ### The Context Transfer Unit -/

/-- R143: the slot of the transfer that ends leaves its place. -/
theorem placedBut_dropTransfer {s : State} {tr : Transfer} {ms : List SlotId}
    (ha : s.ctu.active.map (·.transfer) = some tr) (hs : s.placedBut ms) :
    State.placedBut { s with ctu.active := none } (tr.slot :: ms) := by
  obtain ⟨a, hactive, rfl⟩ := Option.map_eq_some_iff.1 ha
  refine placedBut_leave [(a.transfer.slot, .active)] hs rfl (subperm_of_count fun p => ?_)
  simp only [count_places, hactive, List.count_append, Option.toList_some, Option.toList_none, List.map_cons,
    List.map_nil, List.count_nil]
  omega

theorem placed_finishExport {s : State} {tr : Transfer} (ha : s.ctu.active.map (·.transfer) = some tr)
    (hs : s.placed) : (finishExport tr s).placed :=
  (placedBut_nil _).1 (placedBut_complete _ _ (placedBut_freeStream _ (placedBut_dropTransfer ha hs)))

theorem placed_failImport {s : State} {tr : Transfer} (status : Status)
    (ha : s.ctu.active.map (·.transfer) = some tr) (hs : s.placed) : (failImport tr status s).placed :=
  (placedBut_nil _).1 (placedBut_complete _ _ (placedBut_freeStream _ (placedBut_dropTransfer ha hs)))

theorem placed_finishImport {s : State} {tr : Transfer} (ha : s.ctu.active.map (·.transfer) = some tr)
    (hs : s.placed) : (finishImport tr s).placed := by
  unfold finishImport
  split
  · have himport := placedBut_dropTransfer (s := s.setStream tr.stream
      (importedContext s.ctu.record (s.stream tr.stream).generation)) ha
      (placedBut_setStream_keep _ _ ((placedBut_nil s).2 hs) (.inr rfl) (.inr rfl))
    rw [← placedBut_nil]
    dsimp only
    split
    · exact placedBut_joinReadyQueue tr.stream .finalizeOnly himport
    · exact placedBut_complete _ _ himport
  · exact placed_failImport .badContext ha hs

theorem placed_failTransfer {s : State} {tr : Transfer} (failure : BusFailure)
    (ha : s.ctu.active.map (·.transfer) = some tr) (hs : s.placed) : (failTransfer tr failure s).placed := by
  unfold failTransfer
  split
  · have hopen := placedBut_updateStream (ms := []) tr.stream (fun c => { c with state := .opened }) hs
      (fun _ => rfl) (fun _ => rfl)
    rw [← placedBut_nil]
    exact placedBut_complete _ _ (placedBut_dropTransfer ha hopen)
  · exact placed_failImport failure.status ha hs

@[simp] theorem landTransfer_active (a : ActiveTransfer) (lanes : Vector Byte 64) (s : State) :
    (landTransfer a lanes s).ctu.active = s.ctu.active := by
  unfold landTransfer; split <;> rfl

theorem SamePlaces.landTransfer (a : ActiveTransfer) (lanes : Vector Byte 64) (s : State) :
    SamePlaces s (landTransfer a lanes s) := by
  unfold Machine.landTransfer
  split
  · exact .refl s
  · exact ⟨rfl, by simp only [State.places]⟩

/-- R109, R112: an arbitration leaves the active transfer as it was, but for the retry count. -/
@[simp] theorem arbitrate_transfer (s : State) :
    (arbitrate s).ctu.active.map (·.transfer) = s.ctu.active.map (·.transfer) := by
  rcases arbitrate_cases s with h | ⟨item, _, _, _, _, h⟩ | ⟨a, ha, _, _, _, h⟩ <;> rw [h]
  · rfl
  · simp [grantCtu, ha]

@[simp] theorem endBurst_transfer (s : State) :
    (endBurst s).ctu.active.map (·.transfer) = s.ctu.active.map (·.transfer) := arbitrate_transfer _

/-- R146, R148: the end of the burst leaves the transfer active, so that it can end. -/
theorem placed_advanceTransfer {s : State} {a : ActiveTransfer} (lanes : Vector Byte 64) (ha : s.ctu.active = some a)
    (hs : s.placed) : (advanceTransfer a lanes s).placed := by
  have hland := (SamePlaces.landTransfer a lanes s).placed hs
  have hend := (SamePlaces.endBurst (landTransfer a lanes s)).placed hland
  have hactive : (endBurst (landTransfer a lanes s)).ctu.active.map (·.transfer) = some a.transfer := by simp [ha]
  rw [advanceTransfer_eq]
  split
  · refine (SamePlaces.requestCtu _).placed ((SamePlaces.endBurst _).placed ?_)
    exact SamePlaces.placed (s := landTransfer a lanes s) ⟨rfl, by simp [State.places, ha]⟩ hland
  · split
    · exact placed_finishExport hactive hend
    · exact placed_finishImport hactive hend

theorem placed_transferStart {s t : State} (hs : s.placed) (ht : execTransferStart s = .next t) : t.placed := by
  unfold execTransferStart at ht
  split at ht
  next tr rest _ ha hq =>
    cases ht
    refine (SamePlaces.requestCtu _).placed ((placedBut_nil _).1 ?_)
    have hleave := placedBut_leave (t := { s with ctu.queue := rest }) [(tr.slot, .waiting)] ((placedBut_nil s).2 hs)
      rfl (subperm_of_count fun p => by
        simp only [count_places, hq, List.count_append, List.map_cons, List.count_cons, List.count_nil]
        omega)
    refine placedBut_enter [tr.slot] .active hleave rfl (subperm_of_count fun p => ?_)
    simp only [count_places, State.setSlot, ha, List.count_append, List.map_cons, List.map_nil, Option.toList_some,
      Option.toList_none, List.count_nil]
    omega
  · cases ht; exact hs

/-! ### The Absorb Path and the Digest Core -/

theorem placed_itemTake {s t : State} (hs : s.placed) (ht : execItemTake s = .next t) : t.placed := by
  unfold execItemTake at ht
  split at ht
  next item rest _ ha hq =>
    cases ht
    refine (SamePlaces.requestFetch _).placed ((placedBut_nil _).1 ?_)
    have hleave := placedBut_leave (t := { s with ap.readyQueue := rest }) [(item.slot, .ready)]
      ((placedBut_nil s).2 hs) rfl (subperm_of_count fun p => by
        simp only [count_places, hq, List.count_append, List.map_cons, List.count_cons, List.count_nil]
        omega)
    refine placedBut_enter [item.slot] .active hleave rfl (subperm_of_count fun p => ?_)
    simp only [count_places, State.setSlot, ha, activeItemOf, List.count_append, List.map_cons, List.map_nil,
      Option.toList_some, Option.toList_none, List.count_nil]
    omega
  · cases ht; exact hs

theorem SamePlaces.endUnwanted (b : Burst) (s : State) : SamePlaces s (endUnwanted b s) := by
  unfold Machine.endUnwanted
  split
  · exact SamePlaces.trans (t := { s with ap := s.ap.discard .filling }) ⟨rfl, rfl⟩ (.endBurst _)
  · exact .endBurst s

theorem SamePlaces.landFetch {s : State} {item : ActiveItem} (b : Burst) (lanes : Vector Byte 64)
    (ha : s.ap.active = some item) : SamePlaces s (landFetch b item lanes s) := by
  unfold Machine.landFetch
  refine SamePlaces.trans ?_ (.examineAbsorbPath _)
  refine SamePlaces.trans ?_ (.endBurst _)
  exact ⟨rfl, by simp [State.places, ha]⟩

theorem placed_answerOk {s : State} (b : Burst) (lanes : Vector Byte 64) (hs : s.placed) :
    (answerOk b lanes s).placed := by
  unfold answerOk
  split
  · exact (SamePlaces.endUnwanted b s).placed hs
  · split
    next ha => exact (SamePlaces.landFetch b lanes ha).placed hs
    next ha => exact placed_advanceTransfer lanes ha hs
    · exact (SamePlaces.endBurst s).placed hs

theorem SamePlaces.failFetch {s : State} {item : ActiveItem} (failure : BusFailure) (ha : s.ap.active = some item) :
    SamePlaces s (failFetch item failure s) := by
  unfold Machine.failFetch
  refine SamePlaces.trans ?_ (.endBurst _)
  exact ⟨rfl, by simp [State.places, AbsorbPath.discard, ha]⟩

theorem placed_answerFailure {s : State} (b : Burst) (failure : BusFailure) (hs : s.placed) :
    (answerFailure b failure s).placed := by
  unfold answerFailure
  split
  · exact (SamePlaces.endUnwanted b s).placed hs
  · split
    next ha => exact (SamePlaces.failFetch failure ha).placed hs
    next ha => exact placed_failTransfer failure (by simp [ha]) ((SamePlaces.endBurst s).placed hs)
    · exact (SamePlaces.endBurst s).placed hs

theorem SamePlaces.countRetry (b : Burst) (s : State) : SamePlaces s (countRetry b s) := by
  unfold Machine.countRetry
  split
  · exact ⟨rfl, by cases ha : s.ap.active <;> simp [State.places, ha]⟩
  · exact ⟨rfl, by cases ha : s.ctu.active <;> simp [State.places, ha]⟩

theorem placed_answerRetry {s : State} (b : Burst) (hs : s.placed) : (answerRetry b s).placed := by
  have hcount := (SamePlaces.countRetry b s).placed hs
  unfold answerRetry
  dsimp only
  split
  · exact (SamePlaces.endUnwanted b _).placed hcount
  · split
    · exact placed_answerFailure b .retryLimit hcount
    · exact hcount

theorem placed_finishItem {s : State} {item : ActiveItem} (ha : s.ap.active = some item) (hs : s.placed) :
    (finishItem item s).placed :=
  (placedBut_nil _).1 (placedBut_complete _ _ (placedBut_dropActive item.stream ha ((placedBut_nil s).2 hs)))

theorem placed_storeDigest {s : State} {item : ActiveItem} (ha : s.ap.active = some item) (hs : s.placed) :
    (storeDigest item s).placed := by
  rw [← placedBut_nil]
  refine placedBut_complete _ _ (placedBut_updateStream _ _ ?_ (fun _ => rfl) (fun _ => rfl))
  exact placedBut_dropActive item.stream ha ((placedBut_nil s).2 hs)

/-- R127: what the end of a drain writes into the context of the active item's stream. -/
def drainedContext (s : State) (c : StreamContext) : StreamContext :=
  let bytes := (s.ap.buffer s.ap.nextDrain).data
  let x := absorbBytes s.dc.noted s.dc.copy bytes
  { c with absorbed := c.absorbed + bytes.length, residue := x.residue, chaining := x.chaining }

theorem absorbDrain_ou (item : ActiveItem) (s : State) :
    (absorbDrain item s).ou = (s.updateStream item.stream (drainedContext s)).ou := rfl

theorem placed_absorbDrain {s : State} {item : ActiveItem} (ha : s.ap.active = some item) (hs : s.placed) :
    (absorbDrain item s).placed := by
  have hwritten := placedBut_updateStream (ms := []) item.stream (drainedContext s) hs (fun _ => rfl) (fun _ => rfl)
  have hsame : SamePlaces (s.updateStream item.stream (drainedContext s)) (absorbDrain item s) :=
    ⟨rfl, by simp only [State.places, absorbDrain_ou]; simp [absorbDrain, ha]⟩
  exact (placedBut_nil _).1 (hsame.placedBut hwritten)

theorem SamePlaces.discardDrain {s : State} {item : ActiveItem} (ha : s.ap.active = some item) :
    SamePlaces s (discardDrain item s) := ⟨rfl, by simp [Machine.discardDrain, State.places, ha]⟩

theorem placed_afterDrain {s : State} (hs : s.placed) : (afterDrain s).placed := by
  unfold afterDrain
  split
  · exact hs
  next ha =>
    split
    · dsimp only
      split
      · exact SamePlaces.placed ⟨rfl, rfl⟩ hs
      · exact placed_finishItem ha hs
    · exact (SamePlaces.examineAbsorbPath s).placed hs

theorem placed_drainEnd {s t : State} (hs : s.placed) (ht : execDrainEnd s = .next t) : t.placed := by
  unfold execDrainEnd at ht
  split at ht
  next ha =>
    split at ht
    · cases ht; exact placed_afterDrain (placed_absorbDrain ha hs)
    · cases ht; exact (SamePlaces.discardDrain ha).placed hs
  · cases ht; exact hs

theorem placed_finalizationEnd {s t : State} (hs : s.placed) (ht : execFinalizationEnd s = .next t) : t.placed := by
  unfold execFinalizationEnd at ht
  split at ht
  next ha =>
    split at ht
    · cases ht; exact placed_abandonActive ha hs
    · cases ht; exact placed_storeDigest ha hs
  · cases ht; exact hs

theorem placed_faultReport {s t : State} (hs : s.placed) (ht : execFaultReport s = .next t) : t.placed := by
  unfold execFaultReport at ht
  split at ht
  next ha =>
    split at ht
    next failure _ =>
      split at ht
      · split at ht
        · cases ht; exact placed_abandonActive ha hs
        · cases ht; exact placed_faultStream failure ha hs
      · cases ht; exact hs
    · cases ht; exact hs
  · cases ht; exact hs

theorem placed_cutEnd {s t : State} (hs : s.placed) (ht : execCutEnd s = .next t) : t.placed := by
  unfold execCutEnd at ht
  split at ht
  next ha =>
    split at ht
    · cases ht; exact placed_abandonActive ha hs
    · cases ht; exact hs
  · cases ht; exact hs

theorem placed_burstOk {lanes : Vector Byte 64} {s t : State} (hs : s.placed) (ht : execBurstOk lanes s = .next t) :
    t.placed := by
  unfold execBurstOk at ht
  split at ht
  · cases ht; exact placed_answerOk _ lanes hs
  · cases ht; exact hs

theorem placed_burstRetry {s t : State} (hs : s.placed) (ht : execBurstRetry s = .next t) : t.placed := by
  unfold execBurstRetry at ht
  split at ht
  · cases ht; exact placed_answerRetry _ hs
  · cases ht; exact hs

theorem placed_retryLimit {s t : State} (hs : s.placed) (ht : execRetryLimit s = .next t) : t.placed := by
  unfold execRetryLimit at ht
  split at ht
  · split at ht
    · cases ht; exact placed_answerRetry _ hs
    · cases ht; exact hs
  · cases ht; exact hs

theorem placed_burstError {s t : State} (hs : s.placed) (ht : execBurstError s = .next t) : t.placed := by
  unfold execBurstError at ht
  split at ht
  · cases ht; exact placed_answerFailure _ .busError hs
  · cases ht; exact hs

/-! ### The timers -/

theorem placed_countGap {s : State} (h : Handle) (hs : s.placed) : (countGap s h).placed := by
  unfold countGap
  split
  · exact hs
  · split
    · exact placed_expireGap h hs
    · exact placedBut_updateStream (ms := []) h _ hs (fun _ => rfl) (fun _ => rfl)

theorem placed_countGaps {s : State} (hs : List Handle) (h : s.placed) : (hs.foldl countGap s).placed := by
  induction hs generalizing s with
  | nil => exact h
  | cons k hs ih => exact ih (placed_countGap k h)

theorem SamePlaces.countCoalescing (s : State) : SamePlaces s (countCoalescing s) := by
  unfold Machine.countCoalescing
  split
  · exact .refl s
  · split <;> exact ⟨rfl, rfl⟩

theorem placed_tick {s t : State} (hs : s.placed) (ht : execTick s = .next t) : t.placed := by
  have hcount := (SamePlaces.countCoalescing s).placed hs
  unfold execTick at ht
  split at ht
  · dsimp only at ht
    split at ht
    · exact Host.Outcome.next.inj ht ▸ placed_countGaps _ hcount
    · exact Host.Outcome.next.inj ht ▸ hcount
  · cases ht; exact hs

end Sys2Proof.Machine
end

section
/-! PROOF. Every step keeps each slot in at most one place, its state saying which (R79, R187). Outside CLEARING every
command keeps `State.placed`; in CLEARING every command keeps the blocks already swept clean, and the end of the sweep
finds every slot placed again. -/

namespace Sys2Proof.Machine

/-! ### The window commands -/

/-- R79: no place of the chip holds a CLAIMED slot. -/
theorem places_ne_claimed {s : State} {p : SlotId × SlotState} (hp : p ∈ s.places) : p.2 ≠ .claimed := by
  simp only [State.places, List.mem_append, List.mem_map] at hp
  rcases hp with ((((((((h | h) | h) | h) | h) | h) | h) | h) | h) <;> obtain ⟨_, _, rfl⟩ := h <;> simp

/-- R79: a CLAIMED slot is in no place, and so is ready to enter one. -/
theorem placedBut_of_claimed {s : State} {n : SlotId} (hn : s.slotState n = .claimed) (hs : s.placed) :
    s.placedBut [n] := by
  refine ⟨List.nodup_cons.2 ⟨fun hmem => ?_, hs.1⟩, hs.2⟩
  obtain ⟨p, hp, rfl⟩ := List.mem_map.1 hmem
  exact places_ne_claimed hp ((hs.2 p hp).symm.trans hn)

theorem SamePlaces.protocolError (cause : ProtocolError) (offset : BitVec 12) (s : State) :
    SamePlaces s (protocolError cause offset s) := by
  rw [protocolError_eq]; exact ⟨rfl, rfl⟩

theorem SamePlaces.answerRefused (direction : Direction) (s : State) : SamePlaces s (answerRefused direction s) := by
  cases direction <;> exact ⟨rfl, rfl⟩

theorem placed_claim {s t : State} (hs : s.placed) (ht : execClaim s = .next t) : t.placed := by
  unfold execClaim at ht
  split at ht
  · dsimp only at ht
    split at ht
    next n rest _ hq =>
      cases ht
      have hleave := placedBut_leave (t := { s with hbi.readData := s.claimValue, rss.freeQueue := rest })
        [(n, .free)] ((placedBut_nil s).2 hs) rfl (subperm_of_count fun p => by
          simp only [count_places, hq, List.count_append, List.map_cons, List.count_cons, List.count_nil]
          omega)
      exact (placedBut_nil _).1 (placedBut_enter [n] .claimed hleave rfl (List.sublist_append_right _ _).subperm)
    · cases ht
      exact SamePlaces.placed ⟨rfl, rfl⟩ hs
  · cases ht; exact hs

theorem placed_handOver {register : Register} {value : Word} {move : SlotId → State → State} {s : State}
    (hm : ∀ {n s}, State.placedBut s [n] → (move n s).placedBut []) (hs : s.placed) :
    (handOver register value move s).placed := by
  unfold handOver
  split
  · split
    · exact (SamePlaces.protocolError _ _ s).placed hs
    · split
      next hn => exact (placedBut_nil _).1 (hm (placedBut_of_claimed hn hs))
      · exact (SamePlaces.protocolError _ _ s).placed hs
  · exact hs

theorem placed_slotWordWrite {n : SlotId} {k : Fin 8} {value : Word} {s t : State} (hs : s.placed)
    (ht : execSlotWordWrite n k value s = .next t) : t.placed := by
  unfold execSlotWordWrite at ht
  split at ht
  · split at ht
    · cases ht; exact SamePlaces.placed ⟨rfl, rfl⟩ hs
    · cases ht; exact (SamePlaces.protocolError _ _ s).placed hs
  · cases ht; exact hs

/-- R166: the slot of the entry that leaves the Backlog becomes FREE. -/
theorem placed_refillFromBacklog {s : State} (hs : s.placed) : (refillFromBacklog s).placed := by
  rcases hb : s.cu.backlog with _ | ⟨e, rest⟩
  · rwa [refillFromBacklog_nil hb]
  · rw [refillFromBacklog_cons hb, ← placedBut_nil]
    refine placedBut_returnToFreeQueue (placedBut_leave [(e.slot, .backlog)] ((placedBut_nil s).2 hs) rfl
      (subperm_of_count fun p => ?_))
    simp only [count_places, hb, CompletionUnit.afterWrites_backlog, List.count_append, List.map_cons,
      List.count_cons, List.count_nil]
    omega

theorem placed_cqPop {value : Word} {s t : State} (hs : s.placed) (ht : execCqPop value s = .next t) : t.placed := by
  unfold execCqPop at ht
  split at ht
  · split at ht
    · cases ht; exact (SamePlaces.protocolError _ _ s).placed hs
    · cases ht; exact placed_refillFromBacklog hs
  · cases ht; exact hs

/-- A command that leaves the places as they are under a condition, and else is not taken. -/
theorem placed_ite {p : Prop} [Decidable p] {s t u : State} (hs : s.placed)
    (hu : (if p then .next t else .next s : Result) = .next u) (h : p → SamePlaces s t) : u.placed := by
  split at hu
  next hp => exact Host.Outcome.next.inj hu ▸ (h hp).placed hs
  next _ => exact Host.Outcome.next.inj hu ▸ hs

theorem SamePlaces.writeIntStatus (value : Word) (s : State) : SamePlaces s (writeIntStatus value s) := by
  rw [writeIntStatus_eq]
  refine ⟨rfl, ?_⟩
  simp only [State.places]
  split <;> simp

/-- R28, R187: the clear stops the gap timers and moves no slot. -/
theorem SamePlaces.writeControl (value : Word) (s : State) : SamePlaces s (writeControl value s) := by
  unfold Machine.writeControl
  dsimp only
  split
  · refine ⟨rfl, ?_⟩
    simp only [State.places, beginClear, Vector.toList_map, List.flatMap_map, List.filterMap_map, Function.comp_def]
  · exact ⟨rfl, rfl⟩

theorem placed_unknownKind {s t : State} (hs : s.placed) (ht : execUnknownKind s = .next t) : t.placed :=
  placed_dispatchTake (fun h => placedBut_complete .badRequest none h) hs ht

/-! ### Every slot FREE -/

/-- The blocks behind the RSS hold no slot. -/
structure HoldsNothing (s : State) : Prop where
  postQueue : s.rss.postQueue = []
  holdList : ∀ h, (s.stream h).holdList = []
  pendingControl : ∀ h, (s.stream h).pendingControl = none
  readyQueue : s.ap.readyQueue = []
  active : s.ap.active = none
  transferQueue : s.ctu.queue = []
  transfer : s.ctu.active = none
  backlog : s.cu.backlog = []

theorem flatMap_eq_nil_of_forall {α β : Type} {n : Nat} (v : Vector α n) (f : α → List β)
    (h : ∀ i : Fin n, f v[i] = []) : v.toList.flatMap f = [] := by
  rw [List.flatMap_eq_nil_iff]
  intro x hx
  obtain ⟨i, hi, rfl⟩ := List.mem_iff_getElem.1 hx
  simpa using h ⟨i, by simpa using hi⟩

/-- R98, R187: with every slot FREE in the Free Queue and the other blocks empty, every slot is placed. -/
theorem placed_of_allFree {s : State} (hempty : HoldsNothing s) (hqueue : s.rss.freeQueue = List.finRange 48)
    (hfree : ∀ n, s.slotState n = .free) : s.placed := by
  have hheld : s.ou.streams.toList.flatMap (·.holdList) = [] := flatMap_eq_nil_of_forall _ _ hempty.holdList
  have hwaiting : s.ou.streams.toList.filterMap (·.pendingControl) = [] := by
    rw [List.filterMap_eq_flatMap_toList]
    exact flatMap_eq_nil_of_forall _ _ fun h => by
      simpa [State.stream] using hempty.pendingControl h
  have hplaces : s.places = (List.finRange 48).map (·, SlotState.free) := by
    simp [State.places, hqueue, hheld, hwaiting, hempty.postQueue, hempty.readyQueue, hempty.active,
      hempty.transferQueue, hempty.transfer, hempty.backlog]
  refine ⟨?_, fun p hp => ?_⟩
  · rw [hplaces, List.map_map]
    simpa [Function.comp_def] using List.nodup_finRange 48
  · rw [hplaces] at hp
    obtain ⟨n, -, rfl⟩ := List.mem_map.1 hp
    exact hfree n

/-- R194: at the power-on values every slot is FREE. -/
theorem slotState_reset (n : SlotId) : State.reset.slotState n = .free := by
  simp [State.slotState, State.reset, SlotStore.reset]

/-- R27: at the power-on values every context is stream FREE. -/
theorem stream_reset (h : Handle) : State.reset.stream h = freeContext 0 := by
  simp [State.stream, State.reset, OrderingUnit.reset]

theorem holdsNothing_reset : HoldsNothing State.reset where
  postQueue := rfl
  holdList h := by rw [stream_reset]; rfl
  pendingControl h := by rw [stream_reset]; rfl
  readyQueue := rfl
  active := rfl
  transferQueue := rfl
  transfer := rfl
  backlog := rfl

theorem placed_reset : State.reset.placed := placed_of_allFree holdsNothing_reset rfl slotState_reset

/-! ### Outside CLEARING -/

/-- R79: outside CLEARING every command keeps every slot placed. -/
theorem exec_placed {c : Instr} {s t : State} (hengine : s.ec.engine ≠ .clearing) (hs : s.placed)
    (ht : exec c s = .next t) : t.placed := by
  cases c with
  | claim => exact placed_claim hs ht
  | returnSlot value =>
    exact Host.Outcome.next.inj ht ▸ placed_handOver (register := .returnSlot) placedBut_returnToFreeQueue hs
  | post value => exact Host.Outcome.next.inj ht ▸ placed_handOver (register := .post) placedBut_joinPostQueue hs
  | slotWordWrite n k value => exact placed_slotWordWrite hs ht
  | cqPop value => exact placed_cqPop (value := value) hs ht
  | dispatch value => exact placed_ite hs ht (fun _ => .writeControl value s)
  | engineClear value => exact placed_ite hs ht (fun _ => .writeControl value s)
  | timebaseWrite value => exact placed_ite hs ht (fun _ => ⟨rfl, rfl⟩)
  | cqConfigWrite value => exact placed_ite hs ht (fun _ => ⟨rfl, rfl⟩)
  | cqCauseClear value => exact placed_ite hs ht (fun _ => .writeIntStatus value s)
  | protoCauseClear value => exact placed_ite hs ht (fun _ => .writeIntStatus value s)
  | readyCauseClear value => exact placed_ite hs ht (fun _ => .writeIntStatus value s)
  | intEnableWrite value => exact placed_ite hs ht (fun _ => ⟨rfl, rfl⟩)
  | protoErrClear value => exact placed_ite hs ht (fun _ => ⟨rfl, rfl⟩)
  | streamSelect value => exact placed_ite hs ht (fun _ => ⟨rfl, rfl⟩)
  | digestSelect value => exact placed_ite hs ht (fun _ => ⟨rfl, rfl⟩)
  | badWidth direction size offset =>
    exact placed_ite hs ht (fun _ => (SamePlaces.answerRefused direction s).trans (.protocolError _ _ _))
  | badAddress direction offset =>
    exact placed_ite hs ht (fun _ => (SamePlaces.answerRefused direction s).trans (.protocolError _ _ _))
  | readOnly offset => exact placed_ite hs ht (fun _ => .protocolError _ _ s)
  | resetAssert => exact Host.Outcome.next.inj ht ▸ SamePlaces.placed ⟨rfl, rfl⟩ placed_reset
  | resetRelease => exact Host.Outcome.next.inj ht ▸ SamePlaces.placed ⟨rfl, rfl⟩ hs
  | startUpSweepEnd => exact placed_ite hs ht (fun _ => ⟨rfl, rfl⟩)
  | sweepRss => exact placed_ite hs ht (fun h => absurd h.1.1 hengine)
  | sweepStreamTable => exact placed_ite hs ht (fun h => absurd h.1.1 hengine)
  | sweepAbsorbPath => exact placed_ite hs ht (fun h => absurd h.1.1 hengine)
  | sweepCtu => exact placed_ite hs ht (fun h => absurd h.1.1 hengine)
  | sweepCu => exact placed_ite hs ht (fun h => absurd h.1.1 hengine)
  | clearingSweepEnd => exact placed_ite hs ht (fun h => absurd h.1 hengine)
  | tick => exact placed_tick hs ht
  | gapTimerExpiry h =>
    change (if _ then _ else _) = _ at ht
    split at ht
    · exact Host.Outcome.next.inj ht ▸ placed_expireGap h hs
    · exact Host.Outcome.next.inj ht ▸ hs
  | coalescingTimerExpiry => exact placed_ite hs ht (fun _ => ⟨rfl, rfl⟩)
  | openRequest => exact placed_dispatchTake placedBut_openOutcome (kind := (· == 1)) hs ht
  | fragmentRequest => exact placed_dispatchTake placedBut_fragmentOutcome (kind := (· == 2)) hs ht
  | abortRequest => exact placed_dispatchTake placedBut_abortOutcome (kind := (· == 3)) hs ht
  | releaseRequest => exact placed_dispatchTake placedBut_releaseOutcome (kind := (· == 4)) hs ht
  | exportRequest => exact placed_dispatchTake placedBut_exportOutcome (kind := (· == 5)) hs ht
  | importRequest => exact placed_dispatchTake placedBut_importOutcome (kind := (· == 6)) hs ht
  | unknownKind => exact placed_unknownKind hs ht
  | itemTake => exact placed_itemTake hs ht
  | burstOk lanes => exact placed_burstOk hs ht
  | burstRetry => exact placed_burstRetry hs ht
  | retryLimit => exact placed_retryLimit hs ht
  | burstError => exact placed_burstError hs ht
  | drainEnd => exact placed_drainEnd hs ht
  | finalizationEnd => exact placed_finalizationEnd hs ht
  | faultReport => exact placed_faultReport hs ht
  | cutEnd => exact placed_cutEnd hs ht
  | transferStart => exact placed_transferStart hs ht

end Sys2Proof.Machine
end

section
/-! PROOF. The engine clear (R187): what is taken in RUN alone, what the clearing sweep has reached stays clean, and
every step keeps the slots accounted for. -/

namespace Sys2Proof.Machine

/-! ### What is taken in RUN alone -/

/-- The commands that outside RUN change nothing: the moves of slots by the window, pops, ticks, takes and the
happenings of the Absorb Path, of the Digest Core and of the CTU, but for the answers of the host bus. -/
def takenInRunOnly : Instr → Bool
  | .returnSlot _ | .post _ | .slotWordWrite _ _ _ | .cqPop _ | .tick | .gapTimerExpiry _ | .coalescingTimerExpiry
  | .openRequest | .fragmentRequest | .abortRequest | .releaseRequest | .exportRequest | .importRequest | .unknownKind
  | .itemTake | .drainEnd | .finalizationEnd | .faultReport | .cutEnd | .transferStart => true
  | _ => false

theorem dispatchTake_of_not_running (kind : Byte → Bool) (request : SlotId → State → State) {s : State}
    (hr : s.ec.engine ≠ .run) : dispatchTake kind request s = .next s := dispatchTake_closed kind request s (.inl hr)

/-- R86, R87, R89, R166, R189 and the others: outside RUN such a command is ignored, or is no happening. -/
theorem exec_of_not_running {c : Instr} {s : State} (hc : takenInRunOnly c = true) (hr : s.ec.engine ≠ .run) :
    exec c s = .next s := by
  cases c with
  | returnSlot value => simp [exec, execReturnSlot, handOver, hr]
  | post value => simp [exec, execPost, handOver, hr]
  | slotWordWrite n k value => exact exec_slotWordWrite_of_not_running n k value hr
  | cqPop value => simp [exec, execCqPop, hr]
  | tick => simp [exec, execTick, hr]
  | gapTimerExpiry h => simp [exec, execGapTimerExpiry, hr]
  | coalescingTimerExpiry => simp [exec, execCoalescingTimerExpiry, hr]
  | openRequest => exact dispatchTake_of_not_running (· == 1) openOutcome hr
  | fragmentRequest => exact dispatchTake_of_not_running (· == 2) fragmentOutcome hr
  | abortRequest => exact dispatchTake_of_not_running (· == 3) abortOutcome hr
  | releaseRequest => exact dispatchTake_of_not_running (· == 4) releaseOutcome hr
  | exportRequest => exact dispatchTake_of_not_running (· == 5) exportOutcome hr
  | importRequest => exact dispatchTake_of_not_running (· == 6) importOutcome hr
  | unknownKind => exact
    dispatchTake_of_not_running (fun k => k == 0 || 6 < k.toNat) (fun n s => refuse n .badRequest s) hr
  | itemTake => simp [exec, execItemTake, hr]
  | drainEnd => simp [exec, execDrainEnd, hr]
  | finalizationEnd => simp [exec, execFinalizationEnd, hr]
  | faultReport => simp [exec, execFaultReport, hr]
  | cutEnd => simp [exec, execCutEnd, hr]
  | transferStart => simp [exec, execTransferStart, hr]
  | _ => exact nomatch hc

/-! ### The answers of the host bus in CLEARING -/

/-- R109: outside RUN nothing is granted. -/
theorem arbitrate_of_not_running {s : State} (hr : s.ec.engine ≠ .run) : arbitrate s = s := by simp [arbitrate, hr]

theorem endBurst_of_not_running {s : State} (hr : s.ec.engine ≠ .run) : endBurst s = { s with bma.burst := none } :=
  arbitrate_of_not_running hr

/-- R119: in CLEARING no burst is wanted. -/
theorem unwanted_of_clearing {s : State} (hc : s.ec.engine = .clearing) (b : Burst) : unwanted s b = true := by
  simp [unwanted, hc]

@[simp] theorem countRetry_ec (b : Burst) (s : State) : (countRetry b s).ec = s.ec := by
  unfold countRetry; split <;> rfl

/-! ### What the sweep has reached stays clean -/

/-- R187: the engine is in CLEARING, and the blocks already swept are clean. -/
def State.clean (s : State) : Prop := s.ec.engine = .clearing ∧ s.sweptClean

/-- The two states agree on the engine state and on all that `State.sweptClean` speaks of. -/
structure StillSwept (s t : State) : Prop where
  engine : t.ec.engine = s.ec.engine
  swept : t.ec.swept = s.ec.swept
  states : t.rss.states = s.rss.states
  freeQueue : t.rss.freeQueue = s.rss.freeQueue
  postQueue : t.rss.postQueue = s.rss.postQueue
  ou : t.ou = s.ou
  readyQueue : t.ap.readyQueue = s.ap.readyQueue
  active : s.ap.active = none → t.ap.active = none
  transferQueue : t.ctu.queue = s.ctu.queue
  transfer : s.ctu.active = none → t.ctu.active = none
  backlog : t.cu.backlog = s.cu.backlog

/-- A command that changes nothing of the RSS, the Stream Table, the Absorb Path, the CTU and the Backlog. -/
theorem StillSwept.of_frame {s t : State} (engine : t.ec.engine = s.ec.engine) (swept : t.ec.swept = s.ec.swept)
    (rss : t.rss = s.rss) (ou : t.ou = s.ou) (ap : t.ap = s.ap) (ctu : t.ctu = s.ctu)
    (backlog : t.cu.backlog = s.cu.backlog) : StillSwept s t where
  engine := engine
  swept := swept
  states := by rw [rss]
  freeQueue := by rw [rss]
  postQueue := by rw [rss]
  ou := ou
  readyQueue := by rw [ap]
  active h := by rw [ap, h]
  transferQueue := by rw [ctu]
  transfer h := by rw [ctu, h]
  backlog := backlog

theorem StillSwept.refl (s : State) : StillSwept s s := .of_frame rfl rfl rfl rfl rfl rfl rfl

theorem StillSwept.trans {s t u : State} (hst : StillSwept s t) (htu : StillSwept t u) : StillSwept s u where
  engine := htu.engine.trans hst.engine
  swept := htu.swept.trans hst.swept
  states := htu.states.trans hst.states
  freeQueue := htu.freeQueue.trans hst.freeQueue
  postQueue := htu.postQueue.trans hst.postQueue
  ou := htu.ou.trans hst.ou
  readyQueue := htu.readyQueue.trans hst.readyQueue
  active h := htu.active (hst.active h)
  transferQueue := htu.transferQueue.trans hst.transferQueue
  transfer h := htu.transfer (hst.transfer h)
  backlog := htu.backlog.trans hst.backlog

theorem StillSwept.clean {s t : State} (h : StillSwept s t) (hs : s.clean) : t.clean := by
  obtain ⟨hengine, hrss, hstreams, habsorb, hctu, hcu⟩ := hs
  have hstream : t.stream = s.stream := stream_congr (by rw [h.ou])
  have hslot : t.slotState = s.slotState := slotState_congr h.states
  unfold State.clean State.sweptClean
  rw [h.engine, h.swept, h.postQueue, h.freeQueue, hslot, hstream, h.readyQueue, h.transferQueue, h.backlog]
  exact ⟨hengine, hrss, hstreams, fun hm => ⟨(habsorb hm).1, h.active (habsorb hm).2⟩,
    fun hm => ⟨(hctu hm).1, h.transfer (hctu hm).2⟩, hcu⟩

theorem StillSwept.endUnwanted {s : State} (b : Burst) (hc : s.ec.engine = .clearing) :
    StillSwept s (endUnwanted b s) := by
  have hr : s.ec.engine ≠ .run := by simp [hc]
  unfold Machine.endUnwanted
  split
  · rw [endBurst_of_not_running (by exact hr)]
    exact ⟨rfl, rfl, rfl, rfl, rfl, rfl, rfl, id, rfl, id, rfl⟩
  · rw [endBurst_of_not_running hr]
    exact .of_frame rfl rfl rfl rfl rfl rfl rfl

theorem StillSwept.countRetry (b : Burst) (s : State) : StillSwept s (countRetry b s) := by
  unfold Machine.countRetry
  split
  · exact ⟨rfl, rfl, rfl, rfl, rfl, rfl, rfl, fun h => by simp [h], rfl, id, rfl⟩
  · exact ⟨rfl, rfl, rfl, rfl, rfl, rfl, rfl, id, rfl, fun h => by simp [h], rfl⟩

theorem StillSwept.protocolError (cause : ProtocolError) (offset : BitVec 12) (s : State) :
    StillSwept s (protocolError cause offset s) := by
  rw [protocolError_eq]; exact .of_frame rfl rfl rfl rfl rfl rfl rfl

theorem StillSwept.answerRefused (direction : Direction) (s : State) : StillSwept s (answerRefused direction s) := by
  cases direction <;> exact .of_frame rfl rfl rfl rfl rfl rfl rfl

theorem StillSwept.writeIntStatus (value : Word) (s : State) : StillSwept s (writeIntStatus value s) := by
  rw [writeIntStatus_eq]
  exact .of_frame rfl rfl rfl rfl rfl rfl (by dsimp only; split <;> simp)

theorem StillSwept.writeControl {s : State} (value : Word) (hc : s.ec.engine = .clearing) :
    StillSwept s (writeControl value s) := by
  have hclear : ¬ (value.getLsbD 1 = true ∧ State.running { s with ec.dispatchEnable := value.getLsbD 0 }) := by
    simp [hc]
  unfold Machine.writeControl
  rw [if_neg hclear]
  exact .of_frame rfl rfl rfl rfl rfl rfl rfl

/-- R82: in CLEARING a read of CLAIM claims nothing. -/
theorem StillSwept.claim {s t : State} (hc : s.ec.engine = .clearing) (ht : execClaim s = .next t) :
    StillSwept s t := by
  unfold execClaim at ht
  split at ht
  · rw [hc] at ht
    cases ht
    exact .of_frame rfl rfl rfl rfl rfl rfl rfl
  · cases ht; exact .refl s

theorem StillSwept.burstOk {s t : State} {lanes : Vector Byte 64} (hc : s.ec.engine = .clearing)
    (ht : execBurstOk lanes s = .next t) : StillSwept s t := by
  unfold execBurstOk at ht
  split at ht
  · simp only [answerOk, unwanted_of_clearing hc, if_true] at ht
    cases ht; exact .endUnwanted _ hc
  · cases ht; exact .refl s

theorem StillSwept.burstError {s t : State} (hc : s.ec.engine = .clearing) (ht : execBurstError s = .next t) :
    StillSwept s t := by
  unfold execBurstError at ht
  split at ht
  · simp only [answerFailure, unwanted_of_clearing hc, if_true] at ht
    cases ht; exact .endUnwanted _ hc
  · cases ht; exact .refl s

theorem StillSwept.burstRetry {s t : State} (hc : s.ec.engine = .clearing) (ht : execBurstRetry s = .next t) :
    StillSwept s t := by
  unfold execBurstRetry at ht
  split at ht
  next b _ =>
    have hc' : (Machine.countRetry b s).ec.engine = .clearing := by simp [hc]
    simp only [answerRetry, unwanted_of_clearing hc', if_true] at ht
    cases ht
    exact (StillSwept.countRetry b s).trans (.endUnwanted b hc')
  · cases ht; exact .refl s

/-- R112, R119: no sixteenth RETRY is one of a burst still wanted. -/
theorem StillSwept.retryLimit {s t : State} (hc : s.ec.engine = .clearing) (ht : execRetryLimit s = .next t) :
    StillSwept s t := by
  unfold execRetryLimit at ht
  split at ht
  · simp [unwanted_of_clearing hc] at ht
    exact ht ▸ .refl s
  · cases ht; exact .refl s

/-- A command that moves nothing of what the sweep has reached, under a condition, and else is not taken. -/
theorem StillSwept.ite {p : Prop} [Decidable p] {s t u : State}
    (hu : (if p then .next t else .next s : Result) = .next u) (h : p → StillSwept s t) : StillSwept s u := by
  split at hu
  next hp => exact Host.Outcome.next.inj hu ▸ h hp
  next _ => exact Host.Outcome.next.inj hu ▸ .refl s

/-! ### The sweeps -/

/-- A sweep that is taken leaves the chip clean; one that is not changes nothing. -/
theorem clean_ite {p : Prop} [Decidable p] {s t u : State} (hs : s.clean)
    (hu : (if p then .next t else .next s : Result) = .next u) (h : t.clean) : u.clean := by
  split at hu
  · exact Host.Outcome.next.inj hu ▸ h
  · exact Host.Outcome.next.inj hu ▸ hs

theorem clean_sweepRss {s t : State} (hs : s.clean) (ht : execSweepRss s = .next t) : t.clean := by
  obtain ⟨hc, -, hstreams, habsorb, hctu, hcu⟩ := id hs
  exact clean_ite hs ht ⟨hc, fun _ => ⟨rfl, rfl, slotState_reset⟩, hstreams, habsorb, hctu, hcu⟩

theorem clean_sweepStreamTable {s t : State} (hs : s.clean) (ht : execSweepStreamTable s = .next t) : t.clean := by
  obtain ⟨hc, hrss, -, habsorb, hctu, hcu⟩ := id hs
  refine clean_ite hs ht ⟨hc, hrss, fun _ h => ?_, habsorb, hctu, hcu⟩
  simp [State.stream, freeContext]

theorem clean_sweepAbsorbPath {s t : State} (hs : s.clean) (ht : execSweepAbsorbPath s = .next t) : t.clean := by
  obtain ⟨hc, hrss, hstreams, -, hctu, hcu⟩ := id hs
  exact clean_ite hs ht ⟨hc, hrss, hstreams, fun _ => ⟨rfl, rfl⟩, hctu, hcu⟩

theorem clean_sweepCtu {s t : State} (hs : s.clean) (ht : execSweepCtu s = .next t) : t.clean := by
  obtain ⟨hc, hrss, hstreams, habsorb, -, hcu⟩ := id hs
  exact clean_ite hs ht ⟨hc, hrss, hstreams, habsorb, fun _ => ⟨rfl, rfl⟩, hcu⟩

theorem clean_sweepCu {s t : State} (hs : s.clean) (ht : execSweepCu s = .next t) : t.clean := by
  obtain ⟨hc, hrss, hstreams, habsorb, hctu, -⟩ := id hs
  exact clean_ite hs ht ⟨hc, hrss, hstreams, habsorb, hctu, fun _ => rfl⟩

/-- R187: once every block has been reached, every slot is placed. -/
theorem placed_of_sweptClean {s : State} (hs : s.sweptClean)
    (hall : s.ec.swept = { rss := true, streamTable := true, absorbPath := true, ctu := true, cu := true }) :
    s.placed := by
  obtain ⟨hrss, hstreams, habsorb, hctu, hcu⟩ := hs
  obtain ⟨hpost, hqueue, hfree⟩ := hrss (by rw [hall])
  have hstreams' := hstreams (by rw [hall])
  obtain ⟨hready, hactive⟩ := habsorb (by rw [hall])
  obtain ⟨htransfers, htransfer⟩ := hctu (by rw [hall])
  exact placed_of_allFree
    ⟨hpost, fun h => (hstreams' h).1, fun h => (hstreams' h).2, hready, hactive, htransfers, htransfer,
      hcu (by rw [hall])⟩ hqueue hfree

/-! ### Slots accounted for -/

/-- R187: in CLEARING every command but RESET and the end of the sweep keeps the blocks already swept clean. -/
theorem exec_clean {c : Instr} {s t : State} (hs : s.clean) (ht : exec c s = .next t) (hreset : c ≠ .resetAssert)
    (hend : c ≠ .clearingSweepEnd) : t.clean := by
  have hc : s.ec.engine = .clearing := hs.1
  by_cases hrun : takenInRunOnly c = true
  · rw [exec_of_not_running hrun (by simp [hc])] at ht
    exact Host.Outcome.next.inj ht ▸ hs
  have keeps {u : State} (h : StillSwept s u) : u.clean := h.clean hs
  cases c with
  | claim => exact keeps (.claim hc ht)
  | dispatch value => exact keeps (StillSwept.ite ht fun _ => .writeControl value hc)
  | engineClear value => exact keeps (StillSwept.ite ht fun _ => .writeControl value hc)
  | timebaseWrite value =>
    exact keeps (StillSwept.ite ht fun _ => .of_frame rfl rfl rfl rfl rfl rfl rfl)
  | cqConfigWrite value =>
    exact keeps (StillSwept.ite ht fun _ => .of_frame rfl rfl rfl rfl rfl rfl rfl)
  | cqCauseClear value => exact keeps (StillSwept.ite ht fun _ => .writeIntStatus value s)
  | protoCauseClear value => exact keeps (StillSwept.ite ht fun _ => .writeIntStatus value s)
  | readyCauseClear value => exact keeps (StillSwept.ite ht fun _ => .writeIntStatus value s)
  | intEnableWrite value =>
    exact keeps (StillSwept.ite ht fun _ => .of_frame rfl rfl rfl rfl rfl rfl rfl)
  | protoErrClear value =>
    exact keeps (StillSwept.ite ht fun _ => .of_frame rfl rfl rfl rfl rfl rfl rfl)
  | streamSelect value =>
    exact keeps (StillSwept.ite ht fun _ => .of_frame rfl rfl rfl rfl rfl rfl rfl)
  | digestSelect value =>
    exact keeps (StillSwept.ite ht fun _ => .of_frame rfl rfl rfl rfl rfl rfl rfl)
  | badWidth direction size offset =>
    exact keeps (StillSwept.ite ht fun _ => (StillSwept.answerRefused direction s).trans (.protocolError _ _ _))
  | badAddress direction offset =>
    exact keeps (StillSwept.ite ht fun _ => (StillSwept.answerRefused direction s).trans (.protocolError _ _ _))
  | readOnly offset => exact keeps (StillSwept.ite ht fun _ => .protocolError _ _ s)
  | resetAssert => exact absurd rfl hreset
  | resetRelease =>
    exact Host.Outcome.next.inj ht ▸ keeps (.of_frame rfl rfl rfl rfl rfl rfl rfl)
  | startUpSweepEnd => exact keeps (StillSwept.ite ht fun h => nomatch hc.symm.trans h.1)
  | sweepRss => exact clean_sweepRss hs ht
  | sweepStreamTable => exact clean_sweepStreamTable hs ht
  | sweepAbsorbPath => exact clean_sweepAbsorbPath hs ht
  | sweepCtu => exact clean_sweepCtu hs ht
  | sweepCu => exact clean_sweepCu hs ht
  | clearingSweepEnd => exact absurd rfl hend
  | burstOk lanes => exact keeps (.burstOk hc ht)
  | burstRetry => exact keeps (.burstRetry hc ht)
  | retryLimit => exact keeps (.retryLimit hc ht)
  | burstError => exact keeps (.burstError hc ht)
  | _ => exact absurd rfl hrun

theorem slotsAccounted_of_placed {s : State} (hs : s.placed) (h : s.ec.engine ≠ .clearing) : s.slotsAccounted := by
  rwa [State.slotsAccounted, if_neg h]

theorem slotsAccounted_of_clean {s : State} (h : s.clean) : s.slotsAccounted := by
  rw [State.slotsAccounted, if_pos h.1]; exact h.2

/-- R187: with no block swept yet there is nothing to be clean. -/
theorem sweptClean_of_none {s : State} (h : s.ec.swept = Swept.none) : s.sweptClean := by
  simp [State.sweptClean, h, Swept.none]

/-- R79, R187: a command taken outside CLEARING keeps every slot placed, and an engine clear begins with no block
swept. -/
theorem exec_slotsAccounted_of_placed {c : Instr} {s t : State} (hengine : s.ec.engine ≠ .clearing) (hs : s.placed)
    (ht : exec c s = .next t) : t.slotsAccounted := by
  by_cases hclear : t.ec.engine = .clearing
  · obtain ⟨u, hu, hkept⟩ := exec_kept c s
    obtain rfl : u = t := by simpa [hu] using ht
    exact slotsAccounted_of_clean ⟨hclear, sweptClean_of_none (hkept.clear hengine hclear)⟩
  · exact slotsAccounted_of_placed (exec_placed hengine hs ht) hclear

/-- R187, R194: a command taken in CLEARING keeps the chip clean, or ends the clearing with every slot placed. -/
theorem exec_slotsAccounted_of_clean {c : Instr} {s t : State} (hs : s.clean) (ht : exec c s = .next t) :
    t.slotsAccounted := by
  by_cases hreset : c = .resetAssert
  · subst hreset
    obtain rfl := Host.Outcome.next.inj ht
    exact slotsAccounted_of_placed (SamePlaces.placed ⟨rfl, rfl⟩ placed_reset)
      (by simp [State.reset, EngineControl.reset])
  by_cases hend : c = .clearingSweepEnd
  · subst hend
    change (if _ then _ else _) = _ at ht
    split at ht
    next hall =>
      obtain rfl := Host.Outcome.next.inj ht
      exact slotsAccounted_of_placed (SamePlaces.placed (s := s) ⟨rfl, rfl⟩ (placed_of_sweptClean hs.2 hall.2))
        (by simp [enterRun])
    next _ =>
      obtain rfl := Host.Outcome.next.inj ht
      exact slotsAccounted_of_clean hs
  exact slotsAccounted_of_clean (exec_clean hs ht hreset hend)

/-- Settles O56. -/
theorem slotsStayAccounted : Obligations.SlotsStayAccounted := by
  intro s t hs ht
  unfold step at ht
  split at ht
  · exact Host.Outcome.next.inj ht ▸ hs
  next c rest _ =>
    by_cases hengine : s.ec.engine = .clearing
    · rw [State.slotsAccounted, if_pos hengine] at hs
      exact exec_slotsAccounted_of_clean (s := { s with pending := rest }) ⟨hengine, hs⟩ ht
    · rw [State.slotsAccounted, if_neg hengine] at hs
      exact exec_slotsAccounted_of_placed (s := { s with pending := rest }) hengine hs ht

end Sys2Proof.Machine
end

section
/-! PROOF. The decoding of the register window (R178, R201) and its refused accesses (R179 to R183). -/

namespace Sys2Proof

/-! ### Narrow and unmapped offsets -/

theorem isNarrow_iff (size : AccessSize) (offset : BitVec 12) :
    isNarrow size offset = true ↔ size ≠ .word ∨ offset.toNat % 4 ≠ 0 := by
  simp [isNarrow]

theorem isNarrow_word_eq_false {offset : BitVec 12} (h : offset.toNat % 4 = 0) : isNarrow .word offset = false := by
  simp [isNarrow, h]

/-- R180, R201: the word numbers that name no register. -/
theorem registerAtWord_eq_none (n : Nat) :
    registerAtWord n = none ↔ 21 ≤ n ∧ n ≤ 23 ∨ 26 ≤ n ∧ n ≤ 31 ∨ 48 ≤ n ∧ n ≤ 255 ∨ 640 ≤ n := by
  unfold registerAtWord
  split
  case h_24 =>
    split
    · simp; omega
    · unfold slotWordAt
      simp only [imp_false] at *
      split <;> simp only [reduceCtorEq, false_iff, true_iff] <;> omega
  all_goals simp

/-- R201: a register lies at four times the word number that names it. -/
theorem offsetOf_registerAtWord {n : Nat} {r : Register} (h : registerAtWord n = some r) :
    (offsetOf r).toNat = 4 * n := by
  unfold registerAtWord at h
  split at h
  case h_24 =>
    split at h
    next hrange =>
      obtain rfl := Option.some.inj h
      simp [offsetOf]; omega
    next _ =>
      unfold slotWordAt at h
      split at h
      next hrange =>
        obtain rfl := Option.some.inj h
        rw [offsetOf_slotWord_toNat]; simp; omega
      next _ => cases h
  all_goals (obtain rfl := Option.some.inj h; rfl)

/-- R201: at a multiple of 4, the register named has that offset. -/
theorem offsetOf_registerAt {offset : BitVec 12} {r : Register} (h4 : offset.toNat % 4 = 0)
    (h : registerAt offset = some r) : offsetOf r = offset := by
  apply BitVec.eq_of_toNat_eq
  rw [offsetOf_registerAtWord h]
  omega

/-! ### The three tests of R178 -/

theorem decodeAccess_of_unmapped {a : Access} (hn : isNarrow a.size a.offset = false)
    (hr : registerAt a.offset = none) :
    decodeAccess a = some (.badAddress a.direction a.offset) := by
  simp [decodeAccess, hn, hr]

theorem decodeAccess_of_write {a : Access} {r : Register} (hn : isNarrow a.size a.offset = false)
    (hr : registerAt a.offset = some r) (hd : a.direction = .write) :
    decodeAccess a = writeCommand a.offset a.data r := by
  simp [decodeAccess, hn, hr, hd]

theorem decodeAccess_of_read {a : Access} {r : Register} (hn : isNarrow a.size a.offset = false)
    (hr : registerAt a.offset = some r) (hd : a.direction = .read) :
    decodeAccess a = if r = .claim then some .claim else none := by
  simp [decodeAccess, hn, hr, hd]

theorem decodeAccess_wordWrite (r : Register) (value : Word) :
    decodeAccess (wordWrite r value) = writeCommand (offsetOf r) value r :=
  decodeAccess_of_write (a := wordWrite r value) (isNarrow_offsetOf r) (registerAt_offsetOf r) rfl

theorem decodeAccess_wordRead (r : Register) (value : Word) :
    decodeAccess { direction := .read, size := .word, offset := offsetOf r, data := value } =
      if r = .claim then some .claim else none :=
  decodeAccess_of_read (a := ⟨.read, .word, offsetOf r, value⟩) (isNarrow_offsetOf r) (registerAt_offsetOf r) rfl

/-- R181: a write to a read-only register is refused at its offset. -/
theorem writeCommand_of_readOnly {r : Register} (h : isReadOnly r = true) (offset : BitVec 12) (value : Word) :
    writeCommand offset value r = some (.readOnly offset) := by
  cases r with
  | status | protoAddr | claim | cqHead _ | streamInfo _ | digestLen | digest _ => rfl
  | _ => cases h

/-! ### Decoding and encoding -/

/-- Settles O3: of the row of each window command, the access written decodes to that row, its operands whole. -/
theorem windowCommandDecodesBack : Obligations.WindowCommandDecodesBack := by
  intro c a hwf ha
  cases c with
  | claim =>
    obtain rfl := Option.some.inj ha
    exact decodeAccess_wordRead .claim 0
  | dispatch value | engineClear value | cqCauseClear value | protoCauseClear value | readyCauseClear value
  | protoErrClear value =>
    obtain rfl := Option.some.inj ha
    rw [decodeAccess_wordWrite]
    simp only [Instr.wellFormed, Bool.and_eq_true, Bool.not_eq_true'] at hwf
    simp [writeCommand, -BitVec.getLsbD_eq_getElem, hwf]
  | returnSlot value | post value | cqPop value | timebaseWrite value | cqConfigWrite value | intEnableWrite value
  | streamSelect value | digestSelect value =>
    obtain rfl := Option.some.inj ha
    exact decodeAccess_wordWrite _ value
  | slotWordWrite n k value =>
    obtain rfl := Option.some.inj ha
    exact decodeAccess_wordWrite _ value
  | badWidth direction size offset =>
    obtain rfl := Option.some.inj ha
    exact decodeAccess_of_isNarrow _ hwf
  | badAddress direction offset =>
    obtain rfl := Option.some.inj ha
    simp only [Instr.wellFormed, Bool.and_eq_true, Bool.not_eq_true', Option.isNone_iff_eq_none] at hwf
    exact decodeAccess_of_unmapped hwf.1 hwf.2
  | readOnly offset =>
    obtain rfl := Option.some.inj ha
    simp only [Instr.wellFormed, Bool.and_eq_true, Bool.not_eq_true', Option.any_eq_true] at hwf
    obtain ⟨hword, r, hr, hro⟩ := hwf
    rw [decodeAccess_of_write hword hr rfl]
    exact writeCommand_of_readOnly hro offset 0
  | _ => cases ha

/-- What EveryAccessIsDecoded says of the decoding `d` of an access. -/
def Access.decodedAs (a : Access) (d : Option Instr) : Prop :=
  match d with
  | some c =>
    c.wellFormed = true ∧
    (accessOf c = some a ∨
      accessOf c = some { a with data := 0 } ∧
        (a.direction = .read ∨ isNarrow a.size a.offset = true ∨ (registerAt a.offset).all isReadOnly = true))
  | none =>
    isNarrow a.size a.offset = false ∧
    ∃ r, registerAt a.offset = some r ∧
      (a.direction = .read ∧ r ≠ .claim ∨
       a.direction = .write ∧ r = .intStatus ∧ a.data.extractLsb' 0 3 = 0 ∨
       a.direction = .write ∧ r = .protoErr ∧ a.data.getLsbD 31 = false)

/-- R174: a word with none of the three cause bits set. -/
theorem extractLsb'_causes_eq_zero {value : Word} (h0 : value.getLsbD 0 = false) (h1 : value.getLsbD 1 = false)
    (h2 : value.getLsbD 2 = false) : value.extractLsb' 0 3 = 0 := by
  ext i hi
  obtain rfl | rfl | rfl : i = 0 ∨ i = 1 ∨ i = 2 := by omega
  · simpa using h0
  · simpa using h1
  · simpa using h2

/-- R178: a write of `value` to register `r` is decoded to a command that is well formed, or changes nothing. -/
theorem decodedAs_writeCommand (r : Register) (value : Word) :
    (wordWrite r value).decodedAs (writeCommand (offsetOf r) value r) := by
  have hnarrow : isNarrow (wordWrite r value).size (wordWrite r value).offset = false := isNarrow_offsetOf r
  have hreg : registerAt (wordWrite r value).offset = some r := registerAt_offsetOf r
  by_cases hro : isReadOnly r = true
  · rw [writeCommand_of_readOnly hro]
    refine ⟨?_, .inr ⟨rfl, .inr (.inr (by simp [hreg, hro]))⟩⟩
    simp [Instr.wellFormed, isNarrow_offsetOf, registerAt_offsetOf, hro]
  cases r with
  | control =>
    unfold writeCommand
    cases h : value.getLsbD 1
    · exact ⟨by simp [Instr.wellFormed, -BitVec.getLsbD_eq_getElem, h], .inl rfl⟩
    · exact ⟨by simp [Instr.wellFormed, -BitVec.getLsbD_eq_getElem, h], .inl rfl⟩
  | intStatus =>
    unfold writeCommand
    cases h0 : value.getLsbD 0
    · cases h1 : value.getLsbD 1
      · cases h2 : value.getLsbD 2
        · exact ⟨hnarrow, _, hreg, .inr (.inl ⟨rfl, rfl, extractLsb'_causes_eq_zero h0 h1 h2⟩)⟩
        · exact ⟨by simp [Instr.wellFormed, -BitVec.getLsbD_eq_getElem, h0, h1, h2], .inl rfl⟩
      · exact ⟨by simp [Instr.wellFormed, -BitVec.getLsbD_eq_getElem, h0, h1], .inl rfl⟩
    · exact ⟨by simp [Instr.wellFormed, -BitVec.getLsbD_eq_getElem, h0], .inl rfl⟩
  | protoErr =>
    unfold writeCommand
    cases h : value.getLsbD 31
    · exact ⟨hnarrow, _, hreg, .inr (.inr ⟨rfl, rfl, h⟩)⟩
    · exact ⟨by simp [Instr.wellFormed, -BitVec.getLsbD_eq_getElem, h], .inl rfl⟩
  | timebase | cqConfig | intEnable | returnSlot | post | cqPop | streamSelect | digestSelect | slotWord _ _ =>
    exact ⟨rfl, .inl rfl⟩
  | status | protoAddr | claim | cqHead _ | streamInfo _ | digestLen | digest _ => exact absurd rfl hro

/-- R178: a well-formed read is CLAIM's command, or changes nothing. -/
theorem decodedAs_read (r : Register) (data : Word) :
    Access.decodedAs ⟨.read, .word, offsetOf r, data⟩ (if r = .claim then some .claim else none) := by
  split
  next h => subst h; exact ⟨rfl, .inr ⟨rfl, .inl rfl⟩⟩
  next h => exact ⟨isNarrow_offsetOf r, r, registerAt_offsetOf r, .inl ⟨rfl, h⟩⟩

/-- Settles O4: by the three tests of R178 in their order. -/
theorem everyAccessIsDecoded : Obligations.EveryAccessIsDecoded := by
  intro a
  change a.decodedAs (decodeAccess a)
  by_cases hn : isNarrow a.size a.offset = true
  · rw [decodeAccess_of_isNarrow a hn]
    exact ⟨hn, .inr ⟨rfl, .inr (.inl hn)⟩⟩
  have hword : a.size = .word ∧ a.offset.toNat % 4 = 0 := by simpa [isNarrow_iff] using hn
  obtain ⟨direction, size, offset, data⟩ := a
  obtain ⟨rfl, h4⟩ := hword
  simp only [Bool.not_eq_true] at hn
  cases hr : registerAt offset with
  | none =>
    rw [decodeAccess_of_unmapped hn hr]
    exact ⟨by simp [Instr.wellFormed, isNarrow_word_eq_false h4, hr],
      .inr ⟨rfl, .inr (.inr (by simp [hr]))⟩⟩
  | some r =>
    obtain rfl := offsetOf_registerAt h4 hr
    cases direction with
    | read => rw [decodeAccess_wordRead]; exact decodedAs_read r data
    | write => exact decodeAccess_wordWrite r data ▸ decodedAs_writeCommand r data

end Sys2Proof

namespace Sys2Proof.Machine

/-! ### Refused accesses -/

/-- R179: the offset rounded down to a multiple of 4. -/
theorem roundDown_eq (offset : BitVec 12) : roundDown offset = BitVec.ofNat 12 (offset.toNat / 4 * 4) := by
  have hshift : roundDown offset = (offset >>> 2) <<< 2 := by
    unfold roundDown
    ext i hi
    interval_cases i <;> simp
  rw [hshift]
  apply BitVec.eq_of_toNat_eq
  simp [Nat.shiftLeft_eq, Nat.shiftRight_eq_div_pow]

/-- Whether a command is a read that is refused, and so answered with 0 (R179, R180). -/
def isRefusedRead : Instr → Bool
  | .badWidth .read _ _ | .badAddress .read _ => true
  | _ => false

/-- R179, R180: the state with the data of the refused access answered. -/
def State.answering (s : State) (c : Instr) : State :=
  { s with hbi.readData := if isRefusedRead c then 0 else s.hbi.readData }

theorem answering_of_write {c : Instr} (h : isRefusedRead c = false) (s : State) : s.answering c = s := by
  simp [State.answering, h]

/-- R179: with the pin released, a narrow access is captured at its rounded offset. -/
theorem exec_badWidth_of_narrow {s : State} (hopen : s.windowOpen) (direction : Direction) {size : AccessSize}
    {offset : BitVec 12} (h : size ≠ .word ∨ offset.toNat % 4 ≠ 0) :
    exec (.badWidth direction size offset) s =
      .next (protocolError .badWidth (BitVec.ofNat 12 (offset.toNat / 4 * 4))
        (s.answering (.badWidth direction size offset))) := by
  rw [exec_badWidth, execBadWidth, if_pos ⟨hopen, (isNarrow_iff _ _).2 h⟩, roundDown_eq]
  cases direction <;> rfl

/-- R180: with the pin released, a well-formed access to an unmapped offset is captured there. -/
theorem exec_badAddress_of_unmapped {s : State} (hopen : s.windowOpen) (direction : Direction) {offset : BitVec 12}
    (h4 : offset.toNat % 4 = 0) (hr : registerAt offset = none) :
    exec (.badAddress direction offset) s =
      .next (protocolError .badAddress offset (s.answering (.badAddress direction offset))) := by
  change execBadAddress direction offset s = _
  rw [execBadAddress, if_pos ⟨hopen, by simp [isNarrow_word_eq_false h4, hr]⟩]
  cases direction <;> rfl

/-- R181: with the pin released, a write to a read-only register is captured at its offset. -/
theorem exec_readOnly_offsetOf {s : State} (hopen : s.windowOpen) {r : Register} (hr : isReadOnly r = true) :
    exec (.readOnly (offsetOf r)) s = .next (protocolError .readOnly (offsetOf r) s) := by
  change execReadOnly (offsetOf r) s = _
  rw [execReadOnly, if_pos ⟨hopen, by simp [isNarrow_offsetOf, registerAt_offsetOf, hr]⟩]

/-- R86, R87: a value of 48 or more names no slot. -/
theorem slotOfWord_eq_none {value : Word} (h : 48 ≤ value.toNat) : slotOfWord value = none := by
  simp [slotOfWord]; omega

/-- R86, R87: a value below 48 names that slot. -/
theorem slotOfWord_eq_some {value : Word} {n : SlotId} (h : value.toNat = n.val) : slotOfWord value = some n := by
  simp [slotOfWord, h]

theorem handOver_of_badSlot {s : State} (hopen : s.windowOpen) (hrun : s.running) (register : Register) {value : Word}
    (move : SlotId → State → State) (h : 48 ≤ value.toNat) :
    handOver register value move s = protocolError .badSlot (offsetOf register) s := by
  rw [handOver, if_pos ⟨hopen, hrun⟩, slotOfWord_eq_none h]

theorem handOver_of_not_claimed {s : State} (hopen : s.windowOpen) (hrun : s.running) (register : Register)
    {value : Word} (move : SlotId → State → State) {n : SlotId} (h : value.toNat = n.val)
    (hn : s.slotState n ≠ .claimed) :
    handOver register value move s = protocolError .slotNotClaimed (offsetOf register) s := by
  rw [handOver, if_pos ⟨hopen, hrun⟩, slotOfWord_eq_some h]; exact if_neg hn

theorem handOver_of_claimed {s : State} (hopen : s.windowOpen) (hrun : s.running) (register : Register)
    {value : Word} (move : SlotId → State → State) {n : SlotId} (h : value.toNat = n.val)
    (hn : s.slotState n = .claimed) : handOver register value move s = move n s := by
  rw [handOver, if_pos ⟨hopen, hrun⟩, slotOfWord_eq_some h]; exact if_pos hn

theorem exec_cqPop_of_empty {s : State} (hopen : s.windowOpen) (hrun : s.running) (value : Word)
    (hq : s.cu.queue = []) : exec (.cqPop value) s = .next (protocolError .cqEmptyPop 0x02C s) := by
  change execCqPop value s = _
  rw [execCqPop, if_pos ⟨hopen, hrun⟩, hq]; rfl

/-- R182: each refused access is answered, and captured with its cause and offset. -/
theorem exec_of_refusedWith {s : State} {c : Instr} {cause : ProtocolError} {offset : BitVec 12} (hopen : s.windowOpen)
    (h : RefusedWith s c cause offset) : exec c s = .next (protocolError cause offset (s.answering c)) := by
  cases h with
  | badWidth direction size offset hnarrow => exact exec_badWidth_of_narrow hopen direction hnarrow
  | badAddress direction offset h4 hr => exact exec_badAddress_of_unmapped hopen direction h4 hr
  | readOnly r hr => rw [answering_of_write rfl]; exact exec_readOnly_offsetOf hopen hr
  | slotWord n k value hrun hn =>
    rw [answering_of_write rfl]; exact exec_slotWordWrite_of_not_claimed k value hopen hrun hn
  | notClaimed _ _ value n hc hrun hv hn =>
    obtain ⟨rfl, rfl⟩ | ⟨rfl, rfl⟩ := hc
    · rw [answering_of_write rfl]
      exact congrArg _ (handOver_of_not_claimed hopen hrun .returnSlot returnToFreeQueue hv hn)
    · rw [answering_of_write rfl]
      exact congrArg _ (handOver_of_not_claimed hopen hrun .post joinPostQueue hv hn)
  | badSlot _ _ value hc hrun hv =>
    obtain ⟨rfl, rfl⟩ | ⟨rfl, rfl⟩ := hc
    · rw [answering_of_write rfl]
      exact congrArg _ (handOver_of_badSlot hopen hrun .returnSlot returnToFreeQueue hv)
    · rw [answering_of_write rfl]
      exact congrArg _ (handOver_of_badSlot hopen hrun .post joinPostQueue hv)
  | emptyPop value hrun hq => rw [answering_of_write rfl]; exact exec_cqPop_of_empty hopen hrun value hq

/-- Settles O5. -/
theorem narrowAccessIsRefused : Obligations.NarrowAccessIsRefused := by
  intro a s h
  have hn := (isNarrow_iff a.size a.offset).2 h
  refine ⟨decodeAccess_of_isNarrow a hn, fun _ => if_pos hn, fun hopen => ?_⟩
  rw [exec_badWidth_of_narrow hopen a.direction h, protocolError_eq]
  cases a.direction <;> rfl

/-- Settles O6. -/
theorem unmappedAccessIsRefused : Obligations.UnmappedAccessIsRefused := by
  intro a s hsize h4
  have hn : isNarrow a.size a.offset = false := hsize ▸ isNarrow_word_eq_false h4
  refine ⟨fun hrange => ?_, fun hr => ?_⟩
  · have hr : registerAt a.offset = none := (registerAtWord_eq_none _).2 (by omega)
    refine ⟨decodeAccess_of_unmapped hn hr, fun _ => by simp [readWindow, hn, hr], fun hopen => ?_⟩
    rw [exec_badAddress_of_unmapped hopen a.direction h4 hr, protocolError_eq]
    cases a.direction <;> rfl
  · have hlt := a.offset.isLt
    have hrange := (registerAtWord_eq_none _).1 hr
    omega

/-- Settles O7. -/
theorem readOnlyWriteIsRefused : Obligations.ReadOnlyWriteIsRefused := by
  intro r value s hr
  have hro : isReadOnly r = true := by
    obtain rfl | rfl | rfl | ⟨k, rfl⟩ | ⟨k, rfl⟩ | rfl | ⟨k, rfl⟩ := hr <;> rfl
  refine ⟨(decodeAccess_wordWrite r value).trans (writeCommand_of_readOnly hro _ _), fun hopen => ?_⟩
  rw [exec_readOnly_offsetOf hopen hro, protocolError_eq]

end Sys2Proof.Machine
end

section
/-! PROOF. The protocol error capture and its reads (R182, R183), the slot commands of the window (R82, R86, R87), and
the pops, the configuration and the causes of the Completion Unit (R166, R168, R172, R174, R175). -/

namespace Sys2Proof.Machine

/-! ### Fields of a word -/

/-- R195: the field above the `n` bits of `b` begins with `a`. -/
theorem extractLsb'_append_above {m n : Nat} (a : BitVec m) (b : BitVec n) (start len : Nat) :
    (a ++ b).extractLsb' (n + start) len = a.extractLsb' start len := by
  rw [BitVec.extractLsb'_append_eq_of_le (Nat.le_add_right n start), Nat.add_sub_cancel_left]

theorem getLsbD_append_above {m n : Nat} (a : BitVec m) (b : BitVec n) (i : Nat) :
    (a ++ b).getLsbD (n + i) = a.getLsbD i := by
  simp [BitVec.getLsbD_append]

theorem getLsbD_append_below {m n : Nat} (a : BitVec m) (b : BitVec n) {i : Nat} (h : i < n) :
    (a ++ b).getLsbD i = b.getLsbD i := by
  simp [BitVec.getLsbD_append, h]

/-! ### The capture (R182, R183) -/

theorem intStatus_proto (s : State) : s.intStatus.getLsbD 1 = s.hbi.protoCause := by
  unfold State.intStatus
  exact (getLsbD_append_above _ _ 0).trans ((getLsbD_append_below _ _ Nat.one_pos).trans (by simp))

/-- R183: the overrun flag is bit 8 of PROTO_ERR. -/
theorem protoErrWord_overrun (s : State) : s.protoErrWord.getLsbD 8 = s.hbi.overrun := by
  unfold State.protoErrWord
  exact (getLsbD_append_above _ _ 5).trans
    ((getLsbD_append_above _ _ 0).trans ((getLsbD_append_below _ _ Nat.one_pos).trans (by simp)))

/-- R201: bits 2:0 of PROTO_ERR are the code of the cause captured. -/
theorem protoErrWord_cause (s : State) :
    s.protoErrWord.extractLsb' 0 3 = s.hbi.capture.elim 0 fun c => c.cause.code := by
  unfold State.protoErrWord
  exact BitVec.extractLsb'_append_eq_right

theorem protoErrWord_low (s : State) : s.protoErrWord.extractLsb' 3 5 = 0 := by
  unfold State.protoErrWord
  exact (extractLsb'_append_above _ _ 0 5).trans BitVec.extractLsb'_append_eq_right

theorem protoErrWord_high (s : State) : s.protoErrWord.extractLsb' 9 23 = 0 := by
  unfold State.protoErrWord
  exact (extractLsb'_append_above _ _ 6 23).trans
    ((extractLsb'_append_above _ _ 1 23).trans BitVec.extractLsb'_append_eq_left)

theorem isRefusedRead_iff (c : Instr) :
    isRefusedRead c = true ↔ (∃ size o, c = .badWidth .read size o) ∨ ∃ o, c = .badAddress .read o := by
  unfold isRefusedRead
  split <;> simp_all

/-- Settles O8: every refused access comes to one capture, whose effect is read off case by case. -/
theorem captureKeepsFirstError : Obligations.CaptureKeepsFirstError := by
  refine ⟨fun c cause offset s hopen h => ?_, by decide, fun value s => ⟨?_, ?_, protoErrWord_overrun s,
    protoErrWord_low s, protoErrWord_high s, ?_, ?_⟩⟩
  · refine ⟨_, exec_of_refusedWith hopen h, ?_⟩
    rw [protocolError_eq]
    refine ⟨rfl, fun hnone => ?_, fun held hheld => ?_, fun hread => ?_, fun hw ha => ?_, intStatus_proto _⟩
    · simp [State.answering, HostInterface.capturing, hnone]
    · simp [State.answering, HostInterface.capturing, hheld]
    · exact if_pos ((isRefusedRead_iff c).2 hread)
    · refine if_neg fun hr => ?_
      obtain ⟨size, o, rfl⟩ | ⟨o, rfl⟩ := (isRefusedRead_iff c).1 hr
      · exact hw _ _ rfl
      · exact ha _ rfl
  · exact fun hopen h => if_pos ⟨hopen, h⟩
  · exact fun h => if_neg fun ⟨_, h'⟩ => Bool.false_ne_true (h.symm.trans h')
  · intro c hc
    refine ⟨(protoErrWord_cause s).trans (by rw [hc]; rfl), ?_⟩
    simp [readRegister, State.protoAddrWord, hc, BitVec.ofNat_toNat]
  · intro hc
    exact ⟨(protoErrWord_cause s).trans (by rw [hc]; rfl), by simp [readRegister, State.protoAddrWord, hc]⟩

/-! ### The slot commands (R82, R86, R87) -/

theorem exec_readOnly_rss (offset : BitVec 12) (s : State) :
    ∃ t, exec (.readOnly offset) s = .next t ∧ t.rss = s.rss := by
  obtain ⟨t, hexec, hframe⟩ := execReadOnly_frame offset s
  exact ⟨t, hexec, by rw [hframe]⟩

/-- R82: what a CLAIM read returns in each state of the engine and the Free Queue. -/
theorem claimValue_cons {s : State} {n : SlotId} {rest : List SlotId} (hrun : s.running)
    (hq : s.rss.freeQueue = n :: rest) : s.claimValue = BitVec.ofNat 32 n.val := by
  simp only [State.claimValue, hrun, hq]

theorem claimValue_nil {s : State} (hq : s.rss.freeQueue = []) : s.claimValue = 0xFFFFFFFF := by
  unfold State.claimValue
  split
  next _ hq' => cases hq.symm.trans hq'
  next => rfl

theorem claimValue_of_not_running {s : State} (hrun : ¬ s.running) : s.claimValue = 0xFFFFFFFF := by
  unfold State.claimValue
  split
  next hr _ => exact absurd hr hrun
  next => rfl

/-- R82: a CLAIM read that finds a slot. -/
theorem exec_claim_cons {s : State} {n : SlotId} {rest : List SlotId} (hopen : s.windowOpen) (hrun : s.running)
    (hq : s.rss.freeQueue = n :: rest) :
    exec .claim s = .next { s with
      hbi.readData := BitVec.ofNat 32 n.val
      rss := { s.rss with states := s.rss.states.set n .claimed, freeQueue := rest } } := by
  change execClaim s = _
  rw [execClaim, if_pos hopen, claimValue_cons hrun hq]
  simp only [running_iff] at hrun
  simp only [hrun, hq]
  rfl

/-- R82: a CLAIM read that finds none answers with NONE and changes nothing else. -/
theorem exec_claim_none {s : State} (hopen : s.windowOpen) (h : s.running → s.rss.freeQueue = []) :
    exec .claim s = .next { s with hbi.readData := s.claimValue } := by
  change execClaim s = _
  rw [execClaim, if_pos hopen]
  split
  next hr hq => cases (h hr).symm.trans hq
  next => rfl

/-- Settles O9: by the state of the engine, the Free Queue and the pin. -/
theorem claimTakesHeadOfFreeQueue : Obligations.ClaimTakesHeadOfFreeQueue := by
  intro s hc
  refine ⟨fun n rest hrun hq => ?some, fun hrun hq => ?none, fun hrun => ?ignored, fun size hsize => ?narrow,
    fun value => ?write⟩
  case some =>
    exact ⟨claimValue_cons hrun hq, exec_claim_cons (windowOpen_of_running hc hrun) hrun hq⟩
  case none =>
    have hvalue := claimValue_nil hq
    exact ⟨hvalue, hvalue ▸ exec_claim_none (windowOpen_of_running hc hrun) fun _ => hq⟩
  case ignored =>
    have hvalue := claimValue_of_not_running hrun
    refine ⟨hvalue, ?_⟩
    cases hpin : s.ec.resetPin with
    | true => exact if_neg (by simp [hpin])
    | false => exact hvalue ▸ exec_claim_none hpin fun h => absurd h hrun
  case narrow =>
    have hn := isNarrow_of_ne_word hsize (offsetOf .claim)
    obtain ⟨t, ht, hrss⟩ := exec_badWidth_rss .read size (offsetOf .claim) s
    exact ⟨if_pos hn, t, decodeAccess_of_isNarrow _ hn, ht, hrss⟩
  case write =>
    obtain ⟨t, ht, hrss⟩ := exec_readOnly_rss (offsetOf .claim) s
    exact ⟨t, decodeAccess_wordWrite .claim value, ht, hrss⟩

/-- Settles O10. -/
theorem returnGivesSlotBack : Obligations.ReturnGivesSlotBack := by
  intro value s hc
  refine ⟨fun hrun hv => ?_, fun n hrun hv hn => ?_, fun n hrun hv hn => ?_, exec_of_not_running rfl, rfl,
    decodeAccess_wordRead .returnSlot value⟩
  · exact congrArg _ ((handOver_of_badSlot (windowOpen_of_running hc hrun) hrun .returnSlot returnToFreeQueue hv).trans
      (protocolError_eq _ _ _))
  · exact congrArg _ ((handOver_of_not_claimed (windowOpen_of_running hc hrun) hrun .returnSlot returnToFreeQueue hv
      hn).trans (protocolError_eq _ _ _))
  · exact congrArg _ (handOver_of_claimed (windowOpen_of_running hc hrun) hrun .returnSlot returnToFreeQueue hv hn)

/-- Settles O11. -/
theorem postHandsSlotOver : Obligations.PostHandsSlotOver := by
  intro value s hc
  refine ⟨fun hrun hv => ?_, fun n hrun hv hn => ?_, fun n hrun hv hn => ?_, exec_of_not_running rfl, rfl,
    decodeAccess_wordRead .post value⟩
  · exact congrArg _ ((handOver_of_badSlot (windowOpen_of_running hc hrun) hrun .post joinPostQueue hv).trans
      (protocolError_eq _ _ _))
  · exact congrArg _ ((handOver_of_not_claimed (windowOpen_of_running hc hrun) hrun .post joinPostQueue hv hn).trans
      (protocolError_eq _ _ _))
  · exact congrArg _ (handOver_of_claimed (windowOpen_of_running hc hrun) hrun .post joinPostQueue hv hn)

/-! ### The Completion Unit's commands -/

/-- R166: a pop, in RUN, of a queue that holds a record. -/
theorem exec_cqPop_cons {s : State} (hopen : s.windowOpen) (hrun : s.running) (value : Word) {r : Record}
    {rest : List Record} (hq : s.cu.queue = r :: rest) :
    exec (.cqPop value) s = .next (refillFromBacklog { s with cu.queue := rest }) := by
  change execCqPop value s = _
  rw [execCqPop, if_pos ⟨hopen, hrun⟩, hq]

/-- R158, R166: with an entry in the Backlog, a pop leaves the queue as full as it was. -/
theorem length_refilled {cu : CompletionUnit} {r q : Record} {rest : List Record} (hq : cu.queue = r :: rest)
    (hb : cu.backlog ≠ []) (h : cu.bounded) : (rest ++ [q]).length = 64 := by
  obtain ⟨-, hfull, -⟩ := h
  have hlen := hfull hb
  rw [hq] at hlen
  simpa [Config.queueCapacity] using hlen

/-- Settles O13. -/
theorem popRefillsFromBacklog : Obligations.PopRefillsFromBacklog := by
  intro value s hc
  refine ⟨fun hrun hq => ?empty, fun r rest hrun hq hb => ?last, fun r rest e behind hrun hq hb => ?refill,
    exec_of_not_running rfl, rfl, decodeAccess_wordRead .cqPop value, fun size hsize => ?narrow⟩
  case empty =>
    rw [exec_cqPop_of_empty (windowOpen_of_running hc hrun) hrun value hq, protocolError_eq]
  case last =>
    rw [exec_cqPop_cons (windowOpen_of_running hc hrun) hrun value hq, refillFromBacklog_nil (by exact hb)]
  case refill =>
    refine ⟨?_, CompletionUnit.afterWrites_queue _ _, length_refilled hq (by simp [hb])⟩
    rw [exec_cqPop_cons (windowOpen_of_running hc hrun) hrun value hq, refillFromBacklog_cons (by exact hb)]
    exact congrArg (fun cu => Host.Outcome.next (returnToFreeQueue e.slot { s with cu := cu }))
      (CompletionUnit.afterWrites_setBacklog { s.cu with queue := rest } behind [e.record])
  case narrow =>
    refine ⟨decodeAccess_of_isNarrow _ (isNarrow_of_ne_word hsize _), ?_⟩
    obtain ⟨t, ht, hframe⟩ := execBadWidth_frame .write size 0x02C s
    exact ⟨t, ht, by rw [hframe], by rw [hframe]⟩

/-- R168: T as a write takes it. -/
theorem clampThreshold_zero : clampThreshold 0 = 1 := rfl

theorem clampThreshold_of_range {t : Nat} (h1 : 1 ≤ t) (h64 : t ≤ 64) : clampThreshold t = t := by
  unfold clampThreshold; omega

theorem clampThreshold_of_large {t : Nat} (h : 64 < t) : clampThreshold t = 64 := by
  unfold clampThreshold; omega

/-- R201: T in bits 7:0 of CQ_CONFIG. -/
theorem cqConfigWord_threshold (s : State) (h : s.cu.threshold ≤ 64) :
    (s.cqConfigWord.extractLsb' 0 8).toNat = s.cu.threshold := by
  have hfield : s.cqConfigWord.extractLsb' 0 8 = BitVec.ofNat 8 s.cu.threshold := BitVec.extractLsb'_append_eq_right
  rw [hfield, BitVec.toNat_ofNat]
  omega

/-- R201: W in bits 31:16 of CQ_CONFIG. -/
theorem cqConfigWord_holdTime (s : State) : s.cqConfigWord.extractLsb' 16 16 = s.cu.holdTime :=
  (extractLsb'_append_above _ _ 8 16).trans BitVec.extractLsb'_append_eq_left

/-- Settles O14. -/
theorem configurationWritesTakeTheirFields : Obligations.ConfigurationWritesTakeTheirFields := by
  refine ⟨fun value s hopen => ?_, fun value s hopen => ?_⟩
  · refine ⟨_, if_pos hopen, rfl, fun h0 => ?_, clampThreshold_of_range, clampThreshold_of_large, ?_,
      cqConfigWord_holdTime _⟩
    · simp only [h0]; exact clampThreshold_zero
    · exact cqConfigWord_threshold _ (clampThreshold_bounds _).2
  · refine ⟨_, if_pos hopen, rfl, ?_⟩
    apply BitVec.eq_of_toNat_eq
    simp [readRegister]

/-- R172, R174: the write of INT_STATUS, the CQ cause by R172's comparison. -/
theorem writeIntStatus_causes (value : Word) (s : State) :
    writeIntStatus value s = { s with
      hbi := { s.hbi with
        protoCause := s.hbi.protoCause && !value.getLsbD 1
        readyCause := s.hbi.readyCause && !value.getLsbD 2 }
      cu :=
        if value.getLsbD 0 = false ∨ s.cu.cqCause = false then s.cu
        else if s.cu.threshold ≤ s.cu.queue.length then { s.cu with timer := none }
        else if s.cu.queue ≠ [] ∧ s.cu.holdTime ≠ 0 then
          { s.cu with cqCause := false, timer := some s.cu.holdTime.toNat }
        else { s.cu with cqCause := false, timer := none } } := by
  rw [writeIntStatus_eq, clearCq_eq]
  cases value.getLsbD 0 <;> cases hcq : s.cu.cqCause <;> simp

/-- R175: the line is the causes under their enables. -/
theorem interruptLine_iff (s : State) :
    s.interruptLine = true ↔
      s.cu.cqCause = true ∧ s.hbi.intEnable.getLsbD 0 = true ∨
      s.hbi.protoCause = true ∧ s.hbi.intEnable.getLsbD 1 = true ∨
      s.hbi.readyCause = true ∧ s.hbi.intEnable.getLsbD 2 = true := by
  unfold State.interruptLine State.intStatus
  generalize s.hbi.intEnable = enable, s.cu.cqCause = cq, s.hbi.protoCause = proto, s.hbi.readyCause = ready
  revert enable cq proto ready
  decide

/-- Settles O15. -/
theorem interruptCausesAndLine : Obligations.InterruptCausesAndLine := by
  refine ⟨fun c value s hopen hc => ?_, fun value s hopen => if_pos hopen, interruptLine_iff⟩
  rw [← writeIntStatus_causes]
  obtain rfl | rfl | rfl := hc <;> exact if_pos hopen

end Sys2Proof.Machine
end

section
/-! PROOF. The words of the window, field by field: the head record and STATUS (R165, R190, R197), the context captured
by STREAM_SELECT and the digest captured by DIGEST_SELECT (R192, R193, R200). -/

namespace Sys2Proof.Machine

/-! ### Bytes of a word (R195) -/

theorem byteOf_packWord_0 (b0 b1 b2 b3 : Byte) : byteOf (packWord b0 b1 b2 b3) 0 = b0 :=
  BitVec.extractLsb'_append_eq_right

theorem byteOf_packWord_1 (b0 b1 b2 b3 : Byte) : byteOf (packWord b0 b1 b2 b3) 1 = b1 :=
  (extractLsb'_append_above (b3 ++ b2 ++ b1) b0 0 8).trans BitVec.extractLsb'_append_eq_right

theorem byteOf_packWord_2 (b0 b1 b2 b3 : Byte) : byteOf (packWord b0 b1 b2 b3) 2 = b2 :=
  (extractLsb'_append_above (b3 ++ b2 ++ b1) b0 8 8).trans
    ((extractLsb'_append_above (b3 ++ b2) b1 0 8).trans BitVec.extractLsb'_append_eq_right)

theorem byteOf_packWord_3 (b0 b1 b2 b3 : Byte) : byteOf (packWord b0 b1 b2 b3) 3 = b3 :=
  (extractLsb'_append_above (b3 ++ b2 ++ b1) b0 16 8).trans
    ((extractLsb'_append_above (b3 ++ b2) b1 8 8).trans BitVec.extractLsb'_append_eq_left)

/-- R195: byte `k` of the word packed from the bytes of a function. -/
theorem byteOf_packWord (byte : Nat → Byte) (k : Fin 4) :
    byteOf (packWord (byte 0) (byte 1) (byte 2) (byte 3)) k.val = byte k.val :=
  match k with
  | 0 => byteOf_packWord_0 ..
  | 1 => byteOf_packWord_1 ..
  | 2 => byteOf_packWord_2 ..
  | 3 => byteOf_packWord_3 ..

/-- R197, R200: a count held in 32 bits and 16 bits more. -/
theorem wide48 (n : Nat) :
    (BitVec.ofNat 32 n).toNat + 2 ^ 32 * (BitVec.ofNat 16 (n / 2 ^ 32)).toNat = n % 2 ^ 48 := by
  simp only [BitVec.toNat_ofNat]
  omega

/-! ### The head record (R165, R197) -/

theorem headWord_cons {s : State} {r : Record} {rest : List Record} (hrun : s.running) (hq : s.cu.queue = r :: rest)
    (k : Fin 4) : s.headWord k = r.word k := by
  simp only [State.headWord, hrun, hq]

theorem headWord_empty {s : State} (h : s.ec.engine ≠ .run ∨ s.cu.queue = []) (k : Fin 4) :
    s.headWord k = emptyHeadWord k := by
  unfold State.headWord
  split
  next hrun hq =>
    obtain h | h := h
    · exact absurd hrun h
    · cases h.symm.trans hq
  next => rfl

/-- R197: the second word of a record that names a stream. -/
theorem Record.word_2 {r : Record} {ref : StreamRef} (h : r.stream = some ref) :
    r.word 2 = BitVec.ofNat 16 (ref.absorbed / 2 ^ 32) ++ ref.generation ++ BitVec.ofNat 8 ref.handle.val := by
  simp only [Record.word, h]

theorem Record.word_3 {r : Record} {ref : StreamRef} (h : r.stream = some ref) :
    r.word 3 = BitVec.ofNat 32 ref.absorbed := by
  simp only [Record.word, h]

theorem Record.word_state (r : Record) :
    (r.word 1).extractLsb' 24 8 = r.stream.elim 0xFF fun ref => ref.state.code.setWidth 8 := byteOf_packWord_3 ..

theorem Record.word_slot (r : Record) : ((r.word 1).extractLsb' 16 8).toNat = r.slot.val := by
  have hfield : (r.word 1).extractLsb' 16 8 = BitVec.ofNat 8 r.slot.val := byteOf_packWord_2 ..
  have hlt := r.slot.isLt
  rw [hfield, BitVec.toNat_ofNat]
  omega

theorem Record.word_handle {r : Record} {ref : StreamRef} (h : r.stream = some ref) :
    ((r.word 2).extractLsb' 0 8).toNat = ref.handle.val := by
  have hlt := ref.handle.isLt
  rw [Record.word_2 h, BitVec.extractLsb'_append_eq_right, BitVec.toNat_ofNat]
  omega

theorem Record.word_generation {r : Record} {ref : StreamRef} (h : r.stream = some ref) :
    (r.word 2).extractLsb' 8 8 = ref.generation := by
  rw [Record.word_2 h]
  exact (extractLsb'_append_above _ _ 0 8).trans BitVec.extractLsb'_append_eq_right

/-- R197: the absorbed count modulo 2^48 stands in words 3 and 2. -/
theorem Record.word_absorbed {r : Record} {ref : StreamRef} (h : r.stream = some ref) :
    (r.word 3).toNat + 2 ^ 32 * ((r.word 2).extractLsb' 16 16).toNat = ref.absorbed % 2 ^ 48 := by
  have hfield : (r.word 2).extractLsb' 16 16 = BitVec.ofNat 16 (ref.absorbed / 2 ^ 32) := by
    rw [Record.word_2 h]
    exact (extractLsb'_append_above _ _ 8 16).trans
      ((extractLsb'_append_above _ _ 0 16).trans BitVec.extractLsb'_eq_self)
  rw [hfield, Record.word_3 h]
  exact wide48 ref.absorbed

/-! ### STATUS (R190, R201) -/

theorem statusWord_engine (s : State) : s.statusWord.extractLsb' 0 2 = s.ec.engine.code :=
  BitVec.extractLsb'_append_eq_right

theorem statusWord_dispatch (s : State) : s.statusWord.getLsbD 2 = s.ec.dispatchEnable := by
  unfold State.statusWord
  exact (getLsbD_append_above _ _ 0).trans ((getLsbD_append_below _ _ Nat.one_pos).trans (by simp))

theorem statusWord_free (s : State) : s.statusWord.extractLsb' 3 6 = BitVec.ofNat 6 s.rss.freeQueue.length := by
  unfold State.statusWord
  exact (extractLsb'_append_above _ _ 1 6).trans
    ((extractLsb'_append_above _ _ 0 6).trans BitVec.extractLsb'_append_eq_right)

theorem statusWord_posted (s : State) : s.statusWord.extractLsb' 9 6 = BitVec.ofNat 6 s.rss.postQueue.length := by
  unfold State.statusWord
  exact (extractLsb'_append_above _ _ 7 6).trans ((extractLsb'_append_above _ _ 6 6).trans
    ((extractLsb'_append_above _ _ 0 6).trans BitVec.extractLsb'_append_eq_right))

theorem statusWord_held (s : State) : s.statusWord.extractLsb' 15 6 = BitVec.ofNat 6 s.ou.heldCount := by
  unfold State.statusWord
  exact (extractLsb'_append_above _ _ 13 6).trans ((extractLsb'_append_above _ _ 12 6).trans
    ((extractLsb'_append_above _ _ 6 6).trans
      ((extractLsb'_append_above _ _ 0 6).trans BitVec.extractLsb'_append_eq_right)))

theorem statusWord_outstanding (s : State) : s.statusWord.extractLsb' 21 7 = BitVec.ofNat 7 s.outstanding := by
  unfold State.statusWord
  exact (extractLsb'_append_above _ _ 19 7).trans ((extractLsb'_append_above _ _ 18 7).trans
    ((extractLsb'_append_above _ _ 12 7).trans ((extractLsb'_append_above _ _ 6 7).trans
      ((extractLsb'_append_above _ _ 0 7).trans BitVec.extractLsb'_append_eq_right))))

theorem statusWord_high (s : State) : s.statusWord.extractLsb' 28 4 = 0 := by
  unfold State.statusWord
  exact (extractLsb'_append_above _ _ 26 4).trans ((extractLsb'_append_above _ _ 25 4).trans
    ((extractLsb'_append_above _ _ 19 4).trans ((extractLsb'_append_above _ _ 13 4).trans
      ((extractLsb'_append_above _ _ 7 4).trans
        ((extractLsb'_append_above _ _ 0 4).trans BitVec.extractLsb'_eq_self)))))

/-- Settles O17. -/
theorem headRecordAndStatusArePacked : Obligations.HeadRecordAndStatusArePacked := by
  refine ⟨fun s => ⟨fun r rest hrun hq => ?head, fun h => ?empty⟩, by decide, by decide, by decide, fun s =>
    ⟨statusWord_engine s, statusWord_dispatch s, statusWord_free s, statusWord_posted s, statusWord_held s,
      statusWord_outstanding s, statusWord_high s⟩⟩
  case head =>
    simp only [readRegister, headWord_cons hrun hq]
    refine ⟨rfl, byteOf_packWord_0 .., byteOf_packWord_1 .., r.word_slot, fun hnone => ?_, fun ref href => ?_⟩
    · refine ⟨by rw [Record.word_state, hnone]; rfl, ?_, ?_⟩ <;> simp only [Record.word, hnone]
    · exact ⟨by rw [Record.word_state, href]; rfl, Record.word_handle href, Record.word_generation href,
        Record.word_absorbed href⟩
  case empty =>
    simp only [readRegister, headWord_empty h]
    decide

/-! ### The snapshots (R192, R193, R200) -/

/-- R192: the handle that a select value names. -/
theorem handleOfSelect_eq_some {value : Word} {h : Handle} (e : value.toNat = h.val) :
    handleOfSelect value = some h := by
  simp [handleOfSelect, e]

theorem handleOfSelect_eq_none {value : Word} (e : 64 ≤ value.toNat) : handleOfSelect value = none := by
  simp [handleOfSelect]; omega

theorem Algorithm.code_lt (alg : Option Algorithm) : alg.elim 0 Algorithm.code < 4 := by
  rcases alg with _ | _ | _ <;> decide

/-- R200: STREAM_INFO0. -/
theorem streamInfoWords_0 (c : StreamContext) :
    (streamInfoWords c)[0].extractLsb' 0 26 = BitVec.ofNat 26 (c.frontier - c.absorbed) ∧
    (streamInfoWords c)[0].extractLsb' 26 3 = c.state.code ∧
    ((streamInfoWords c)[0].extractLsb' 29 2).toNat = c.algorithm.elim 0 Algorithm.code ∧
    (streamInfoWords c)[0].getLsbD 31 = c.declaredEnd.isSome := by
  have hword : (streamInfoWords c)[0] =
      BitVec.ofBool c.declaredEnd.isSome ++ BitVec.ofNat 2 (c.algorithm.elim 0 Algorithm.code) ++ c.state.code ++
        BitVec.ofNat 26 (c.frontier - c.absorbed) := rfl
  rw [hword]
  refine ⟨BitVec.extractLsb'_append_eq_right, ?_, ?_, ?_⟩
  · exact (extractLsb'_append_above _ _ 0 3).trans BitVec.extractLsb'_append_eq_right
  · refine (congrArg BitVec.toNat ((extractLsb'_append_above _ _ 3 2).trans
      ((extractLsb'_append_above _ _ 0 2).trans BitVec.extractLsb'_append_eq_right))).trans ?_
    exact Nat.mod_eq_of_lt (Algorithm.code_lt _)
  · exact (getLsbD_append_above _ _ 5).trans ((getLsbD_append_above _ _ 2).trans
      ((getLsbD_append_above _ _ 0).trans (by simp)))

/-- R200: STREAM_INFO2. -/
theorem streamInfoWords_2 (c : StreamContext) :
    (streamInfoWords c)[2].extractLsb' 0 16 = BitVec.ofNat 16 (c.absorbed / 2 ^ 32) ∧
    (streamInfoWords c)[2].extractLsb' 16 8 = c.generation ∧
    (streamInfoWords c)[2].extractLsb' 24 5 = BitVec.ofNat 5 c.holdList.length ∧
    (streamInfoWords c)[2].extractLsb' 29 2 = faultBits c.faultCode := by
  have hword : (streamInfoWords c)[2] =
      0#1 ++ faultBits c.faultCode ++ BitVec.ofNat 5 c.holdList.length ++ c.generation ++
        BitVec.ofNat 16 (c.absorbed / 2 ^ 32) := rfl
  rw [hword]
  refine ⟨BitVec.extractLsb'_append_eq_right, ?_, ?_, ?_⟩
  · exact (extractLsb'_append_above _ _ 0 8).trans BitVec.extractLsb'_append_eq_right
  · exact (extractLsb'_append_above _ _ 8 5).trans
      ((extractLsb'_append_above _ _ 0 5).trans BitVec.extractLsb'_append_eq_right)
  · exact (extractLsb'_append_above _ _ 13 2).trans ((extractLsb'_append_above _ _ 5 2).trans
      ((extractLsb'_append_above _ _ 0 2).trans BitVec.extractLsb'_append_eq_right))

/-- R200: the distance to the declared end, capped at all ones. -/
theorem bytesToEnd_toNat (c : StreamContext) :
    (bytesToEnd c).toNat = c.declaredEnd.elim 0 fun e => min (e - c.frontier) 0x3FFFFFF := by
  unfold bytesToEnd
  cases c.declaredEnd with
  | none => rfl
  | some e =>
    simp only [BitVec.toNat_ofNat, Option.elim_some]
    omega

/-- R200: STREAM_INFO3. -/
theorem streamInfoWords_3 (c : StreamContext) :
    (streamInfoWords c)[3].extractLsb' 0 6 = BitVec.ofNat 6 c.inFlight ∧
    ((streamInfoWords c)[3].extractLsb' 6 26).toNat =
      c.declaredEnd.elim 0 fun e => min (e - c.frontier) 0x3FFFFFF := by
  have hword : (streamInfoWords c)[3] = bytesToEnd c ++ BitVec.ofNat 6 c.inFlight := rfl
  rw [hword]
  refine ⟨BitVec.extractLsb'_append_eq_right, ?_⟩
  rw [BitVec.extractLsb'_append_eq_left]
  exact bytesToEnd_toNat c

/-- R192: with the pin released, STREAM_SELECT captures the context named, or zeros. -/
theorem exec_streamSelect {s : State} (hopen : s.windowOpen) (value : Word) :
    exec (.streamSelect value) s = .next { s with
      hbi.streamSelect := value
      hbi.streamInfo :=
        (handleOfSelect value).elim (Vector.replicate 4 0) fun h => streamInfoWords (s.stream h) } := if_pos hopen

/-- Settles O18. -/
theorem streamSelectCapturesContext : Obligations.StreamSelectCapturesContext := by
  refine ⟨by decide, by decide, by decide, fun value s hopen => ⟨fun hv => ?_, fun h hv =>
    ⟨_, exec_streamSelect hopen value, rfl, ?_⟩⟩⟩
  · rw [exec_streamSelect hopen, handleOfSelect_eq_none hv]; rfl
  · rw [handleOfSelect_eq_some hv]
    simp only [Option.elim_some]
    obtain ⟨hdistance, hstate, halgorithm, hend⟩ := streamInfoWords_0 (s.stream h)
    obtain ⟨habsorbed, hgeneration, hheld, hfault⟩ := streamInfoWords_2 (s.stream h)
    obtain ⟨hflight, hleft⟩ := streamInfoWords_3 (s.stream h)
    exact ⟨hdistance, hstate, halgorithm, hend, habsorbed ▸ wide48 _, hgeneration, hheld, hfault, hflight, hleft⟩

/-- R193: with the pin released, DIGEST_SELECT captures the digest of the context named, or nothing. -/
theorem exec_digestSelect {s : State} (hopen : s.windowOpen) (value : Word) {digest : List Byte}
    (hd : (handleOfSelect value).elim [] (fun h => capturedDigest (s.stream h)) = digest) :
    exec (.digestSelect value) s = .next { s with
      hbi.digestSelect := value
      hbi.digestLen := BitVec.ofNat 32 digest.length
      hbi.digest := digestWords digest } := by
  subst hd; exact if_pos hopen

/-- R193: with no digest captured every DIGEST word is 0. -/
theorem digestWords_nil : digestWords [] = Vector.replicate 16 0 := by
  ext n hn
  simp [digestWords, packWord]

/-- R193, R200: byte `k` of DIGEST word `n`. -/
theorem byteOf_digestWords (digest : List Byte) (n : Fin 16) (k : Fin 4) :
    byteOf (digestWords digest)[n] k.val = digest.getD (4 * n.val + k.val) 0 := by
  simp only [digestWords, Fin.getElem_fin, Vector.getElem_ofFn]
  exact byteOf_packWord (fun j => digest.getD (4 * n.val + j) 0) k

/-- Settles O19. -/
theorem digestSelectCapturesDigest : Obligations.DigestSelectCapturesDigest := by
  refine fun value s hopen => ⟨fun hnot => ?_, fun h d hv hfinal hd => ?_⟩
  · have hnone : (handleOfSelect value).elim [] (fun h => capturedDigest (s.stream h)) = [] := by
      by_cases hv : value.toNat < 64
      · have hs := hnot ⟨value.toNat, hv⟩ rfl
        simp [handleOfSelect, hv, capturedDigest, hs]
      · rw [handleOfSelect_eq_none (by omega)]; rfl
    rw [exec_digestSelect hopen value hnone, digestWords_nil]; rfl
  · refine ⟨_, exec_digestSelect hopen value (digest := d) ?_, rfl, byteOf_digestWords d⟩
    simp [handleOfSelect_eq_some hv, capturedDigest, hfinal, hd]

end Sys2Proof.Machine
end

section
/-! PROOF. Steps, reset, start-up, CONTROL and the engine clear (spec 09), with the outcome of the clear in any order of
its sweeps (R187), and the state after RESET. -/

namespace Sys2Proof.Machine

/-- Settles O1. -/
theorem stepTakesFrontCommand : Obligations.StepTakesFrontCommand :=
  ⟨fun c rest s h => by simp only [step, h], fun s h => by simp only [step, h]⟩

/-- Settles O16. -/
theorem coalescingTimerRaisesCq : Obligations.CoalescingTimerRaisesCq := by
  refine fun s => ⟨fun hrun hpre ht => if_pos ⟨⟨hrun, hpre⟩, ht⟩, fun h => if_neg ?_⟩
  rintro ⟨⟨hrun, hpre⟩, ht⟩
  obtain h | h | h := h
  · exact h hrun
  · exact hpre h
  · exact h ht

/-! ### Reset and start-up (R184, R185, R194) -/

/-- R185 (log entry 16): while the RESET pin is asserted the window takes no access. -/
theorem exec_window_of_reset {c : Instr} {a : Access} {s : State} (ha : accessOf c = some a)
    (hpin : s.ec.resetPin = true) : exec c s = .next s := by
  have hclosed : ¬ s.windowOpen := by simp [hpin]
  cases c with
  | returnSlot value => exact congrArg _ (if_neg fun h => hclosed h.1)
  | post value => exact congrArg _ (if_neg fun h => hclosed h.1)
  | slotWordWrite | cqPop | protoErrClear | badWidth | badAddress | readOnly => exact if_neg fun h => hclosed h.1
  | claim | dispatch | engineClear | timebaseWrite | cqConfigWrite | cqCauseClear | protoCauseClear | readyCauseClear
  | intEnableWrite | streamSelect | digestSelect => exact if_neg hclosed
  | _ => cases ha

theorem slotWord_reset (n : SlotId) (k : Fin 8) : State.reset.slotWord n k = 0 := by
  simp [State.slotWord, State.reset, SlotStore.reset]

/-- R174: with no cause set INT_STATUS reads 0. -/
theorem intStatus_of_clear {s : State} (hready : s.hbi.readyCause = false) (hproto : s.hbi.protoCause = false)
    (hcq : s.cu.cqCause = false) : s.intStatus = 0 := by
  rw [State.intStatus, hready, hproto, hcq]; rfl

/-- R175: with every enable clear the line is not asserted. -/
theorem interruptLine_of_disabled {s : State} (h : s.hbi.intEnable = 0) : s.interruptLine = false := by
  simp [State.interruptLine, h]

/-- Settles O20. -/
theorem resetAssertGivesPowerOnValues : Obligations.ResetAssertGivesPowerOnValues := by
  refine ⟨fun c a s => exec_window_of_reset, fun s => ⟨_, rfl, rfl, ?_⟩⟩
  refine ⟨rfl, rfl, rfl, rfl, rfl, rfl, intStatus_of_clear rfl rfl rfl, rfl, interruptLine_of_disabled rfl, rfl, rfl,
    rfl, rfl, rfl, slotWord_reset, slotState_reset, rfl, rfl, stream_reset, ?_⟩
  exact ⟨rfl, rfl, rfl, rfl, rfl, rfl, rfl, rfl, rfl, rfl, rfl, rfl, rfl, rfl, rfl, rfl, rfl, rfl, rfl, rfl⟩

theorem exec_startUpSweepEnd {s : State} (hinit : s.ec.engine = .init) (hpin : s.ec.resetPin = false) :
    exec .startUpSweepEnd s = .next (enterRun s) := if_pos ⟨hinit, hpin⟩

/-- A command taken before others. -/
theorem execAll_cons {c : Instr} {s t : State} (h : exec c s = .next t) (rest : List Instr) :
    execAll (c :: rest) s = execAll rest t := by
  simp only [execAll, h]

/-- R185: the chip once it has started up from reset. -/
def State.started : State := enterRun { State.reset with ec.resetPin := false }

theorem execAll_startUp : execAll [.resetRelease, .startUpSweepEnd] State.reset = .next State.started := by
  rw [execAll_cons (c := .resetRelease) rfl, execAll_cons (exec_startUpSweepEnd rfl rfl)]
  rfl

/-- Settles O21. -/
theorem startUpEntersRun : Obligations.StartUpEntersRun := by
  refine ⟨fun s => rfl, fun s => exec_startUpSweepEnd, fun s h => if_neg ?_, by decide,
    State.started, execAll_startUp, rfl, rfl, by decide, rfl, rfl, rfl, rfl⟩
  rintro ⟨hinit, hpin⟩
  obtain h | h := h
  · exact h hinit
  · exact Bool.false_ne_true (hpin.symm.trans h)

/-! ### CONTROL and the sweeps (R186, R187) -/

/-- Settles O22. -/
theorem controlWriteSetsDispatchAndClears : Obligations.ControlWriteSetsDispatchAndClears := by
  intro value s hopen
  refine ⟨fun hclear => ?_, fun hclear hengine => ?_, fun hclear hrun => ?_⟩
  · refine (if_pos hopen).trans (congrArg _ (if_neg ?_))
    rintro ⟨h, -⟩
    exact Bool.false_ne_true (hclear.symm.trans h)
  · exact (if_pos hopen).trans (congrArg _ (if_neg fun h => hengine h.2))
  · exact (if_pos hopen).trans (congrArg _ (if_pos ⟨hclear, hrun⟩))

/-- Settles O23. -/
theorem sweepsResetTheirBlocks : Obligations.SweepsResetTheirBlocks := by
  intro s hclearing
  refine ⟨fun hidle => ?_, fun hall => if_pos ⟨hclearing, hall⟩⟩
  exact ⟨fun h => if_pos ⟨⟨hclearing, hidle⟩, h⟩, fun h => if_pos ⟨⟨hclearing, hidle⟩, h⟩,
    fun h => if_pos ⟨⟨hclearing, hidle⟩, h⟩, fun h => if_pos ⟨⟨hclearing, hidle⟩, h⟩,
    fun h => if_pos ⟨⟨hclearing, hidle⟩, h⟩⟩

/-! ### The engine clear in any order (R187) -/

/-- R187: the blocks that the sweeps of a list have reached. -/
def Swept.by (done : List Instr) : Swept :=
  { rss := decide (.sweepRss ∈ done)
    streamTable := decide (.sweepStreamTable ∈ done)
    absorbPath := decide (.sweepAbsorbPath ∈ done)
    ctu := decide (.sweepCtu ∈ done)
    cu := decide (.sweepCu ∈ done) }

/-- R187: the state once the blocks marked in `w` have been swept. What is said of the arbiter is the same in either
order of the sweeps that touch it. -/
def State.sweptTo (s : State) (w : Swept) : State :=
  { s with
    ec.swept := w
    rss := if w.rss then { SlotStore.reset with words := s.rss.words } else s.rss
    ou := if w.streamTable then { streams := s.ou.streams.map fun c => freeContext c.generation, heldCount := 0 }
          else s.ou
    ap := if w.absorbPath then AbsorbPath.reset else s.ap
    dc := if w.absorbPath then DigestCore.atRest else s.dc
    bma := if w.absorbPath then BusArbiter.reset
           else if w.ctu then { s.bma with ctuWaiting := false } else s.bma
    ctu := if w.ctu then TransferUnit.reset else s.ctu
    cu := if w.cu then { s.cu with queue := [], backlog := [], timer := none, cqCause := false } else s.cu
    hbi := if w.cu then { s.hbi with protoCause := false, readyCause := false, capture := none, overrun := false }
           else s.hbi }

theorem sweptTo_none {s : State} (h : s.ec.swept = Swept.none) : s.sweptTo Swept.none = s := by
  rcases s with ⟨⟨_, _, _, _, swept⟩, _, _, _, _, _, _, _, _, _⟩
  obtain rfl : swept = Swept.none := h
  rfl

theorem sweeping_sweptTo {s : State} (h : s.sweeping) (w : Swept) : (s.sweptTo w).sweeping := by
  refine ⟨h.1, ?_⟩
  unfold State.sweptTo
  cases w.absorbPath
  · cases w.ctu <;> exact h.2
  · rfl

/-- R187: the five sweeps. -/
def sweeps : List Instr := [.sweepRss, .sweepStreamTable, .sweepAbsorbPath, .sweepCtu, .sweepCu]

/-- R187: a sweep not yet done resets its block and marks it, whatever has been swept before. -/
theorem exec_sweep_sweptTo {s : State} {c : Instr} {done : List Instr} (hs : s.sweeping) (hc : c ∈ sweeps)
    (hnew : c ∉ done) : exec c (s.sweptTo (.by done)) = .next (s.sweptTo (.by (done ++ [c]))) := by
  have hsweeping := sweeping_sweptTo hs (.by done)
  simp only [sweeps, List.mem_cons, List.not_mem_nil, or_false] at hc
  obtain rfl | rfl | rfl | rfl | rfl := hc
  · exact (if_pos ⟨hsweeping, decide_eq_false hnew⟩).trans (by simp [State.sweptTo, Swept.by, hnew])
  · exact (if_pos ⟨hsweeping, decide_eq_false hnew⟩).trans (by simp [State.sweptTo, Swept.by, hnew])
  · exact (if_pos ⟨hsweeping, decide_eq_false hnew⟩).trans (by simp [State.sweptTo, Swept.by, hnew])
  · refine (if_pos ⟨hsweeping, decide_eq_false hnew⟩).trans ?_
    by_cases hap : Instr.sweepAbsorbPath ∈ done <;> simp [State.sweptTo, Swept.by, hnew, hap, BusArbiter.reset]
  · exact (if_pos ⟨hsweeping, decide_eq_false hnew⟩).trans (by simp [State.sweptTo, Swept.by, hnew])

/-- R187: sweeps taken one after another, before other commands. -/
theorem execAll_sweeps {s : State} (hs : s.sweeping) (order done rest : List Instr) (hc : ∀ c ∈ order, c ∈ sweeps)
    (hnodup : (done ++ order).Nodup) :
    execAll (order ++ rest) (s.sweptTo (.by done)) = execAll rest (s.sweptTo (.by (done ++ order))) := by
  induction order generalizing done with
  | nil => simp
  | cons c order ih =>
    have hnew : c ∉ done := fun h => (List.nodup_append.1 hnodup).2.2 c h c (by simp) rfl
    rw [List.cons_append, execAll_cons (exec_sweep_sweptTo hs (hc c (by simp)) hnew),
      ih (done ++ [c]) (fun d hd => hc d (by simp [hd])) (by simpa using hnodup)]
    simp

/-- R187: with every sweep done, in any order, every block has been reached. -/
theorem sweptBy_of_perm {order : List Instr} (h : order.Perm sweeps) :
    Swept.by order = { rss := true, streamTable := true, absorbPath := true, ctu := true, cu := true } := by
  simp [Swept.by, h.mem_iff, sweeps]

/-- Settles O24: the clear comes to the state swept by the list of its sweeps, which does not depend on their order. -/
theorem clearOutcomeIsOrderFree : Obligations.ClearOutcomeIsOrderFree := by
  intro value order s hopen hrun hidle hclear hperm
  obtain ⟨-, -, hbegin⟩ := controlWriteSetsDispatchAndClears value s hopen
  rw [List.cons_append, execAll_cons (hbegin hclear hrun)]
  set cleared : State := { s with
    ec := { s.ec with engine := .clearing, dispatchEnable := value.getLsbD 0, swept := Swept.none }
    ou.streams := s.ou.streams.map fun c => { c with gapTimer := none }
    bma.fetchWaiting := false } with hcleared
  have hsweeping : cleared.sweeping := ⟨rfl, hidle⟩
  have hnodup : order.Nodup := hperm.nodup_iff.2 (by decide)
  have hsweeps := execAll_sweeps hsweeping order [] [.clearingSweepEnd] (fun c hc => hperm.mem_iff.1 hc) hnodup
  rw [show Swept.by [] = Swept.none from rfl, sweptTo_none (s := cleared) rfl] at hsweeps
  rw [hsweeps, List.nil_append, sweptBy_of_perm hperm]
  have hend : exec .clearingSweepEnd (cleared.sweptTo ⟨true, true, true, true, true⟩) =
      .next (enterRun (cleared.sweptTo ⟨true, true, true, true, true⟩)) := by
    change execClearingSweepEnd _ = _
    rw [execClearingSweepEnd]
    exact if_pos ⟨rfl, rfl⟩
  rw [execAll_cons hend]
  simp only [execAll, hcleared, enterRun, State.sweptTo, State.reset, if_true, Vector.map_map, hrun]
  rfl

/-! ### The state after RESET -/

theorem holdsOrdered_reset : State.reset.holdsOrdered := by
  refine ⟨fun h hst => ?_, fun h hst => ?_, Nat.zero_le _⟩
  · rw [stream_reset] at hst
    obtain hst | hst := hst <;> cases hst
  · rw [stream_reset] at hst
    cases hst

/-- Settles O60. -/
theorem resetMeetsTheInvariants : Obligations.ResetMeetsTheInvariants :=
  ⟨slotsAccounted_of_placed placed_reset (by decide), bounded_reset, holdsOrdered_reset, consistent_reset,
    fun _ h => (nomatch h), Nat.zero_le _⟩

end Sys2Proof.Machine
end

section
/-! PROOF. The teardown of a stream in closed form (R60 to R64), and what a tick does to each timer (R58, R60, R169,
R189). -/

namespace Sys2Proof.Machine

/-! ### Successive changes of one context -/

theorem setStream_setStream (s : State) (h : Handle) (c d : StreamContext) :
    (s.setStream h c).setStream h d = s.setStream h d := by
  simp [State.setStream]

theorem updateStream_setStream (s : State) (h : Handle) (c : StreamContext) (f : StreamContext → StreamContext) :
    (s.setStream h c).updateStream h f = s.setStream h (f c) := by
  simp [State.updateStream, setStream_setStream]

theorem updateStream_updateStream (s : State) (h : Handle) (f g : StreamContext → StreamContext) :
    (s.updateStream h f).updateStream h g = s.updateStream h fun c => g (f c) :=
  updateStream_setStream s h _ g

/-- R159: a record is made of the slot words and what it is given. -/
theorem recordOf_congr {s t : State} (hw : t.rss.words = s.rss.words) : recordOf t = recordOf s := by
  funext n status named
  simp only [recordOf, State.tag, State.kindByte, slotWord_congr hw]

/-- R163: endings in a state with the same slot words as the one they are written in. -/
theorem completeAll_congr {s t : State} (hw : t.rss.words = s.rss.words) (endings : List Ending) (named : StreamRef) :
    completeAll endings named t = t.afterEndings (endings.map fun e => recordOf s e.1 e.2 (some named)) := by
  rw [completeAll_eq, recordOf_congr hw]

theorem complete_congr {s t : State} (hw : t.rss.words = s.rss.words) (n : SlotId) (status : Status)
    (named : Option StreamRef) : complete n status named t = t.afterEndings [recordOf s n status named] := by
  rw [complete_eq, recordOf_congr hw]

/-! ### The teardown (R62) and the cut (R64) -/

/-- R62: the state with the work of stream `h` removed and its context `c`. -/
def State.tornDown (s : State) (h : Handle) (c : StreamContext) : State :=
  { s with
    ou := { streams := s.ou.streams.set h c, heldCount := s.ou.heldCount - (s.stream h).holdList.length }
    ap.readyQueue := s.ap.readyQueue.filter (·.stream != h) }

/-- R62: the context of a stream whose work has been removed. -/
def State.emptied (s : State) (h : Handle) : StreamContext :=
  { s.stream h with
    holdList := []
    gapTimer := none
    inFlight := (s.stream h).inFlight - (s.ap.readyQueue.filter (·.stream == h)).length }

theorem removeWork_eq (h : Handle) (s : State) : removeWork h s = s.tornDown h (s.emptied h) := rfl

@[simp] theorem stream_tornDown (s : State) (h k : Handle) (c : StreamContext) :
    (s.tornDown h c).stream k = if h = k then c else s.stream k := stream_setStream s h k c

theorem updateStream_tornDown (s : State) (h : Handle) (c : StreamContext) (f : StreamContext → StreamContext) :
    (s.tornDown h c).updateStream h f = s.tornDown h (f c) := by
  simp [State.updateStream, State.setStream, State.tornDown, State.stream]

@[simp] theorem cutActive_stream (h k : Handle) (s : State) : (cutActive h s).stream k = s.stream k := by
  simp [State.stream]

theorem updateStream_cutActive (h : Handle) (s : State) (f : StreamContext → StreamContext) :
    (cutActive h s).updateStream h f = cutActive h (s.updateStream h f) := by
  by_cases hcut : ∃ item, s.ap.active = some item ∧ item.stream = h ∧ s.dc.mode ≠ .finalizing
  · obtain ⟨item, ha, hh, hmode⟩ := hcut
    rw [cutActive_cut h s item ha hh hmode, cutActive_cut h (s.updateStream h f) item ha hh hmode]
    rfl
  · have hnone : ∀ item, s.ap.active = some item → item.stream = h → s.dc.mode = .finalizing :=
      fun item ha hh => by_contra fun hmode => hcut ⟨item, ha, hh, hmode⟩
    rw [cutActive_none h s hnone, cutActive_none h (s.updateStream h f) hnone]

/-- R62: the records of the work that a teardown removes. -/
theorem removedWork_records (h : Handle) (status : Status) (s : State) (ref : StreamRef) :
    (removedWork h status s).map (fun e => recordOf s e.1 e.2 (some ref)) =
      (s.ap.readyQueue.filter (·.stream == h)).map (fun i => recordOf s i.slot .abandoned (some ref)) ++
        (s.stream h).holdList.map fun n => recordOf s n status (some ref) := by
  simp [removedWork, Function.comp_def]

/-- R60: the context of a stream whose gap timer has expired. -/
def State.expired (s : State) (h : Handle) : StreamContext :=
  { s.emptied h with state := .faulted, faultCode := some .gapTimeout }

/-- R60: what the records of an expiry say of the stream. -/
def State.expiredRef (s : State) (h : Handle) : StreamRef :=
  { state := .faulted, handle := h, generation := (s.stream h).generation, absorbed := (s.stream h).absorbed }

/-- R60, R62: the expiry of a gap timer: the teardown, the cut, and the endings. -/
theorem expireGap_eq (h : Handle) (s : State) :
    expireGap h s = (cutActive h (s.tornDown h (s.expired h))).afterEndings
      ((removedWork h .gapTimeout s).map fun e => recordOf s e.1 e.2 (some (s.expiredRef h))) := by
  have hstate : (cutActive h (removeWork h s)).updateStream h
      (fun c => { c with state := .faulted, faultCode := some .gapTimeout }) =
      cutActive h (s.tornDown h (s.expired h)) := by
    rw [updateStream_cutActive, removeWork_eq, updateStream_tornDown]; rfl
  have href : (cutActive h (s.tornDown h (s.expired h))).refOf h = s.expiredRef h := by
    simp [State.refOf, State.expiredRef, State.expired, State.emptied]
  unfold expireGap
  simp only [hstate, href]
  exact completeAll_congr (by rw [cutActive_rss]; rfl) _ _

/-- Settles O26. -/
theorem gapTimerExpiryFaultsStream : Obligations.GapTimerExpiryFaultsStream := by
  intro s h hrun hpre henable htimer c dropped ref records ou
  have hexec : exec (.gapTimerExpiry h) s = .next (expireGap h s) := if_pos ⟨⟨⟨hrun, hpre⟩, henable⟩, htimer⟩
  rw [hexec, expireGap_eq, removedWork_records]
  refine ⟨fun hnone => ?_, fun item ha hh hmode => ?_⟩
  · rw [cutActive_none h (s.tornDown h (s.expired h)) fun item ha hh => (hnone item ha).resolve_left fun hne => hne hh]
    rfl
  · rw [cutActive_cut h (s.tornDown h (s.expired h)) item ha hh hmode]
    rfl

/-! ### Ticks (R58, R169, R189) -/

/-- R169, R171: a tick at the coalescing timer. -/
theorem countCoalescing_eq (s : State) :
    countCoalescing s = { s with
      cu :=
        if s.cu.timer = some 1 then { s.cu with cqCause := true, timer := none }
        else if s.cu.timer = some 0 then { s.cu with cqCause := true, timer := none }
        else { s.cu with timer := s.cu.timer.map (· - 1) } } := by
  rcases s with ⟨_, _, _, _, _, _, _, _, ⟨_, _, _, _, timer, _⟩, _⟩
  match timer with
  | none => rfl
  | some 0 => rfl
  | some 1 => rfl
  | some (n + 2) => simp [countCoalescing]

theorem countGap_stopped {s : State} {h : Handle} (ht : (s.stream h).gapTimer = none) : countGap s h = s := by
  simp only [countGap, ht]

theorem countGap_running {s : State} {h : Handle} {n : Nat} (hn : 2 ≤ n) (ht : (s.stream h).gapTimer = some n) :
    countGap s h = s.setStream h { s.stream h with gapTimer := some (n - 1) } := by
  simp only [countGap, ht]
  exact if_neg (by omega)

theorem countGap_expiring {s : State} {h : Handle} (ht : (s.stream h).gapTimer = some 1) :
    countGap s h = expireGap h s := by
  simp only [countGap, ht]
  exact if_pos le_rfl

/-- What a tick at another stream's gap timer leaves of stream `h`: its context and its items in the Ready Queue. -/
def sameStream (h : Handle) (s t : State) : Prop :=
  t.stream h = s.stream h ∧ t.ap.readyQueue.filter (·.stream == h) = s.ap.readyQueue.filter (·.stream == h)

theorem sameStream.refl (h : Handle) (s : State) : sameStream h s s := ⟨rfl, rfl⟩

theorem sameStream.trans {h : Handle} {s t u : State} (hst : sameStream h s t) (htu : sameStream h t u) :
    sameStream h s u := ⟨htu.1.trans hst.1, htu.2.trans hst.2⟩

theorem sameStream_expireGap {h k : Handle} (hk : k ≠ h) (s : State) : sameStream h s (expireGap k s) := by
  rw [expireGap_eq]
  refine ⟨?_, ?_⟩
  · rw [stream_congr (t := State.afterEndings _ _) (s := cutActive k (s.tornDown k (s.expired k))) rfl]
    simp [hk]
  · rw [afterEndings_ap, cutActive_readyQueue]
    unfold State.tornDown
    rw [List.filter_filter]
    refine List.filter_congr fun i _ => ?_
    by_cases hi : i.stream = h
    · simp [hi, Ne.symm hk]
    · simp [hi]

theorem sameStream_countGap {h k : Handle} (hk : k ≠ h) (s : State) : sameStream h s (countGap s k) := by
  unfold countGap
  split
  · exact .refl h s
  · split
    · exact sameStream_expireGap hk s
    · exact ⟨by simp [hk], rfl⟩

theorem sameStream_foldl_countGap {h : Handle} (l : List Handle) (hl : h ∉ l) (s : State) :
    sameStream h s (l.foldl countGap s) := by
  induction l generalizing s with
  | nil => exact .refl h s
  | cons k l ih =>
    simp only [List.mem_cons, not_or] at hl
    exact (sameStream_countGap (Ne.symm hl.1) s).trans (ih hl.2 _)

/-- R189: the tick at the gap timers leaves stream `h` as the tick at its own does, whatever the others do. -/
theorem stream_foldl_countGap (s : State) (h : Handle) :
    ∃ t, sameStream h s t ∧ ((List.finRange 64).foldl countGap s).stream h = (countGap t h).stream h := by
  obtain ⟨before, after, hsplit⟩ := List.append_of_mem (List.mem_finRange h)
  have hnodup := hsplit ▸ List.nodup_finRange 64
  rw [List.nodup_append] at hnodup
  obtain ⟨-, hafter, hdisjoint⟩ := hnodup
  have hbefore : h ∉ before := fun hm => hdisjoint h hm h (by simp) rfl
  refine ⟨before.foldl countGap s, sameStream_foldl_countGap before hbefore s, ?_⟩
  rw [hsplit, List.foldl_append, List.foldl_cons]
  exact (sameStream_foldl_countGap after (List.nodup_cons.1 hafter).1 _).1

/-- R58, R60: what a tick at the gap timers does to stream `h`, by the ticks it has left. -/
theorem stream_tick (s : State) (h : Handle) :
    ((s.stream h).gapTimer = none → ((List.finRange 64).foldl countGap s).stream h = s.stream h) ∧
    (∀ n, 2 ≤ n → (s.stream h).gapTimer = some n →
      ((List.finRange 64).foldl countGap s).stream h = { s.stream h with gapTimer := some (n - 1) }) ∧
    ((s.stream h).gapTimer = some 1 → ((List.finRange 64).foldl countGap s).stream h = s.expired h) := by
  obtain ⟨t, ⟨hstream, hqueue⟩, ht⟩ := stream_foldl_countGap s h
  refine ⟨fun hnone => ?_, fun n hn hsome => ?_, fun hone => ?_⟩
  · rw [ht, countGap_stopped (by rw [hstream, hnone]), hstream]
  · rw [ht, countGap_running hn (by rw [hstream, hsome])]
    simp [hstream]
  · rw [ht, countGap_expiring (by rw [hstream, hone]), expireGap_eq,
      stream_congr (t := State.afterEndings _ _) (s := cutActive h (t.tornDown h (t.expired h))) rfl]
    simp [State.expired, State.emptied, hstream, hqueue]

/-- The state with another Stream Table. -/
def State.withStreams (s : State) (streams : Vector StreamContext 64) : State := { s with ou.streams := streams }

theorem countGap_withStreams {s : State} {k : Handle} (hs : ∀ n, (s.stream k).gapTimer = some n → 2 ≤ n) :
    ∃ streams, countGap s k = s.withStreams streams := by
  cases ht : (s.stream k).gapTimer with
  | none => exact ⟨s.ou.streams, countGap_stopped ht⟩
  | some n => exact ⟨_, countGap_running (hs n ht) ht⟩

/-- R58: with no gap timer about to expire, a tick changes the Stream Table alone. -/
theorem foldl_countGap_withStreams (l : List Handle) (hl : l.Nodup) {s : State}
    (hs : ∀ h ∈ l, ∀ n, (s.stream h).gapTimer = some n → 2 ≤ n) :
    ∃ streams, l.foldl countGap s = s.withStreams streams := by
  induction l generalizing s with
  | nil => exact ⟨s.ou.streams, rfl⟩
  | cons k l ih =>
    obtain ⟨hk, hl⟩ := List.nodup_cons.1 hl
    have hrest : ∀ h ∈ l, ∀ n, ((countGap s k).stream h).gapTimer = some n → 2 ≤ n := by
      intro h hh n hn
      have hne : k ≠ h := fun heq => hk (heq ▸ hh)
      rw [(sameStream_countGap hne s).1] at hn
      exact hs h (by simp [hh]) n hn
    obtain ⟨streams, hfirst⟩ := countGap_withStreams (hs k (by simp))
    obtain ⟨streams', hlast⟩ := ih hl hrest
    exact ⟨streams', by rw [List.foldl_cons, hlast, hfirst]; rfl⟩

/-- R58: a running timer with one tick less. -/
def StreamContext.ticked (c : StreamContext) : StreamContext := { c with gapTimer := c.gapTimer.map (· - 1) }

/-- R58: with no gap timer about to expire, every running one falls by one. -/
theorem foldl_countGap_eq {s : State} (hs : ∀ h n, (s.stream h).gapTimer = some n → 2 ≤ n) :
    (List.finRange 64).foldl countGap s = s.withStreams (s.ou.streams.map StreamContext.ticked) := by
  obtain ⟨streams, ht⟩ := foldl_countGap_withStreams _ (List.nodup_finRange 64) fun h _ => hs h
  have hstream : ∀ h, (s.withStreams streams).stream h = (s.stream h).ticked := by
    intro h
    obtain ⟨hstopped, hrunning, -⟩ := stream_tick s h
    rw [ht] at hstopped hrunning
    cases htimer : (s.stream h).gapTimer with
    | none => rw [hstopped htimer, StreamContext.ticked, htimer, Option.map_none, ← htimer]
    | some n => rw [hrunning n (hs h n htimer) htimer, StreamContext.ticked, htimer, Option.map_some]
  have hstreams : streams = s.ou.streams.map StreamContext.ticked := by
    apply Vector.ext
    intro i hi
    rw [Vector.getElem_map]
    exact hstream ⟨i, hi⟩
  rw [ht, hstreams]

/-- R189: in RUN with the prescaler not 0, a tick is taken at the coalescing timer, and at the gap timers when dispatch
is enabled. -/
theorem exec_tick_of_ticking {s : State} (h : s.ticking) :
    exec .tick s = .next (if s.ec.dispatchEnable = true then (List.finRange 64).foldl countGap (countCoalescing s)
      else countCoalescing s) := by
  refine (if_pos h).trans ?_
  rw [countCoalescing_ec]
  split <;> rfl

/-- The tick at the coalescing timer is not seen at the gap timers. -/
theorem expired_countCoalescing (s : State) (h : Handle) : (countCoalescing s).expired h = s.expired h := by
  rw [countCoalescing_eq]; rfl

theorem stream_countCoalescing (s : State) : (countCoalescing s).stream = s.stream :=
  stream_congr (by rw [countCoalescing_ou])

/-- Settles O25. -/
theorem tickReachesEveryTimer : Obligations.TickReachesEveryTimer := by
  refine ⟨fun s => ⟨fun h => if_neg fun hticking => ?_, fun hrun hpre hgaps => ?_⟩,
    fun s h hrun hpre henable => ?_⟩
  · exact h.elim (fun hne => hne hticking.1) hticking.2
  · rw [exec_tick_of_ticking ⟨hrun, hpre⟩]
    cases henable : s.ec.dispatchEnable with
    | false =>
      simp only [Bool.false_eq_true, if_false]
      rw [countCoalescing_eq]
    | true =>
      have htimers : ∀ h n, (s.stream h).gapTimer = some n → 2 ≤ n := hgaps.resolve_left (by simp [henable])
      rw [if_pos rfl, foldl_countGap_eq (by rwa [stream_countCoalescing]), countCoalescing_eq]
      rfl
  · refine ⟨_, exec_tick_of_ticking ⟨hrun, hpre⟩, ?_⟩
    have htick := stream_tick (countCoalescing s) h
    rw [stream_countCoalescing, expired_countCoalescing] at htick
    rw [if_pos henable]
    exact htick

end Sys2Proof.Machine
end

section
/-! PROOF. The Dispatcher's takes: requests refused (R91, R93), OPEN (R24 to R26), ABORT and RELEASE (R66 to R69),
EXPORT and IMPORT (R139 to R142). -/

namespace Sys2Proof.Machine

/-! ### The take and the refusals -/

/-- R90: the state with the head of the Post Queue taken. -/
def State.taken (s : State) (rest : List SlotId) : State := { s with rss.postQueue := rest }

theorem refuse_eq (n : SlotId) (status : Status) (s : State) :
    refuse n status s = s.afterEndings [recordOf s n status none] := complete_eq n status none s

theorem refuseNaming_eq (n : SlotId) (status : Status) (h : Handle) (s : State) :
    refuseNaming n status h s = s.afterEndings [recordOf s n status (some (s.refOf h))] := complete_eq n status _ s

theorem exec_openRequest {s : State} {n : SlotId} {rest : List SlotId} (h : s.offers 1 n rest) :
    exec .openRequest s = .next (openOutcome n (s.taken rest)) :=
  dispatchTake_offers (· == 1) openOutcome s 1 n rest h rfl

theorem exec_fragmentRequest {s : State} {n : SlotId} {rest : List SlotId} (h : s.offers 2 n rest) :
    exec .fragmentRequest s = .next (fragmentOutcome n (s.taken rest)) :=
  dispatchTake_offers (· == 2) fragmentOutcome s 2 n rest h rfl

theorem exec_abortRequest {s : State} {n : SlotId} {rest : List SlotId} (h : s.offers 3 n rest) :
    exec .abortRequest s = .next (abortOutcome n (s.taken rest)) :=
  dispatchTake_offers (· == 3) abortOutcome s 3 n rest h rfl

theorem exec_releaseRequest {s : State} {n : SlotId} {rest : List SlotId} (h : s.offers 4 n rest) :
    exec .releaseRequest s = .next (releaseOutcome n (s.taken rest)) :=
  dispatchTake_offers (· == 4) releaseOutcome s 4 n rest h rfl

theorem exec_exportRequest {s : State} {n : SlotId} {rest : List SlotId} (h : s.offers 5 n rest) :
    exec .exportRequest s = .next (exportOutcome n (s.taken rest)) :=
  dispatchTake_offers (· == 5) exportOutcome s 5 n rest h rfl

theorem exec_importRequest {s : State} {n : SlotId} {rest : List SlotId} (h : s.offers 6 n rest) :
    exec .importRequest s = .next (importOutcome n (s.taken rest)) :=
  dispatchTake_offers (· == 6) importOutcome s 6 n rest h rfl

/-- R89: each of the seven takes is closed outside RUN, with dispatch disabled, and from an empty Post Queue. -/
theorem exec_take_closed {c : Instr} {s : State}
    (hc : c ∈ [.openRequest, .fragmentRequest, .abortRequest, .releaseRequest, .exportRequest, .importRequest,
      .unknownKind])
    (h : s.ec.engine ≠ .run ∨ s.ec.dispatchEnable = false ∨ s.rss.postQueue = []) : exec c s = .next s := by
  simp only [List.mem_cons, List.not_mem_nil, or_false] at hc
  obtain rfl | rfl | rfl | rfl | rfl | rfl | rfl := hc
  · exact dispatchTake_closed (· == 1) openOutcome s h
  · exact dispatchTake_closed (· == 2) fragmentOutcome s h
  · exact dispatchTake_closed (· == 3) abortOutcome s h
  · exact dispatchTake_closed (· == 4) releaseOutcome s h
  · exact dispatchTake_closed (· == 5) exportOutcome s h
  · exact dispatchTake_closed (· == 6) importOutcome s h
  · exact dispatchTake_closed (fun k => k == 0 || 6 < k.toNat) (fun n s => refuse n .badRequest s) s h

/-- Settles O27. -/
theorem unknownKindIsBadRequest : Obligations.UnknownKindIsBadRequest := by
  refine ⟨fun c s hc => exec_take_closed hc, fun s n rest k hoffers hk => ?_⟩
  have hkind : s.kindByte n = k := hoffers.2.2.2
  refine (dispatchTake_offers (fun k => k == 0 || 6 < k.toNat) (fun n s => refuse n .badRequest s) s k n rest hoffers
    (by simpa using hk)).trans ?_
  rw [refuse_eq, ← hkind]
  rfl

/-! ### OPEN (R24 to R26) -/

/-- R24 to R26: the three outcomes of an OPEN, by its fields and the lowest-numbered free handle. -/
theorem openOutcome_cases (n : SlotId) (s : State) :
    (openFieldsValid s n = false → openOutcome n s = refuse n .badRequest s) ∧
    (∀ alg, openFieldsValid s n = true → s.requestAlgorithm n = some alg → s.lowestFree = none →
      openOutcome n s = refuse n .noHandle s) ∧
    ∀ alg h, openFieldsValid s n = true → s.requestAlgorithm n = some alg → s.lowestFree = some h →
      openOutcome n s =
        if (openedContext s n alg ((s.stream h).generation + 1)).state = .ending then
          joinReadyQueue n h .finalizeOnly (s.setStream h (openedContext s n alg ((s.stream h).generation + 1)))
        else refuseNaming n .ok h (s.setStream h (openedContext s n alg ((s.stream h).generation + 1))) := by
  unfold openOutcome
  refine ⟨fun hfields => ?_, fun alg hfields halg hfree => ?_, fun alg h hfields halg hfree => ?_⟩
  · simp only [hfields]
  · simp only [hfields, halg, hfree]
  · simp only [hfields, halg, hfree]

theorem openOutcome_of_invalid {s : State} {n : SlotId} (h : ¬ s.openFieldsPass n) :
    openOutcome n s = refuse n .badRequest s :=
  (openOutcome_cases n s).1 (by simpa [← openFieldsValid_iff] using h)

theorem openOutcome_of_full {s : State} {n : SlotId} (h : s.openFieldsPass n) (hfull : s.noneFree) :
    openOutcome n s = refuse n .noHandle s := by
  obtain ⟨alg, halg⟩ := Option.ne_none_iff_exists'.1 h.1
  exact (openOutcome_cases n s).2.1 alg ((openFieldsValid_iff s n).2 h) halg (lowestFree_of_noneFree s hfull)

theorem openOutcome_of_free {s : State} {n : SlotId} {h : Handle} {alg : Algorithm} (hpass : s.openFieldsPass n)
    (halg : s.requestAlgorithm n = some alg) (hfree : s.lowestFreeIs h) :
    openOutcome n s =
      if (openedContext s n alg ((s.stream h).generation + 1)).state = .ending then
        joinReadyQueue n h .finalizeOnly (s.setStream h (openedContext s n alg ((s.stream h).generation + 1)))
      else refuseNaming n .ok h (s.setStream h (openedContext s n alg ((s.stream h).generation + 1))) :=
  (openOutcome_cases n s).2.2 alg h ((openFieldsValid_iff s n).2 hpass) halg (lowestFree_of_lowestFreeIs s h hfree)

/-- R26: the context that an OPEN with the declared end `declaredEnd` makes. -/
def State.openedWith (s : State) (n : SlotId) (alg : Algorithm) (generation : BitVec 8) (declaredEnd : Option Nat) :
    StreamContext :=
  { freeContext generation with
    state := if declaredEnd = some 0 then .ending else .opened
    algorithm := some alg
    holdLimit := s.requestHoldLimit n
    gapTimeout := s.requestGapTimeout n
    declaredEnd := declaredEnd
    chaining := initialChaining alg
    inFlight := if declaredEnd = some 0 then 1 else 0 }

theorem openedContext_of_flag {s : State} {n : SlotId} (h : s.endPresentFlag n = true) (alg : Algorithm)
    (generation : BitVec 8) :
    openedContext s n alg generation = s.openedWith n alg generation (some (s.position n)) :=
  congrArg (s.openedWith n alg generation) (if_pos h)

theorem openedContext_of_no_flag {s : State} {n : SlotId} (h : s.endPresentFlag n = false) (alg : Algorithm)
    (generation : BitVec 8) : openedContext s n alg generation = s.openedWith n alg generation none :=
  congrArg (s.openedWith n alg generation) (if_neg (by rw [h]; decide))

/-- R26: an OPEN without a declared end. -/
theorem openedContext_of_no_end {s : State} {n : SlotId} (h : s.endPresentFlag n = false) (alg : Algorithm)
    (generation : BitVec 8) :
    openedContext s n alg generation = { freeContext generation with
      state := .opened
      algorithm := some alg
      holdLimit := s.requestHoldLimit n
      gapTimeout := s.requestGapTimeout n
      chaining := initialChaining alg } :=
  openedContext_of_no_flag h alg generation

/-- R26: an OPEN with a declared end above 0. -/
theorem openedContext_of_end {s : State} {n : SlotId} (h : s.endPresentFlag n = true) (hpos : 0 < s.position n)
    (alg : Algorithm) (generation : BitVec 8) :
    openedContext s n alg generation = { freeContext generation with
      state := .opened
      algorithm := some alg
      holdLimit := s.requestHoldLimit n
      gapTimeout := s.requestGapTimeout n
      declaredEnd := some (s.position n)
      chaining := initialChaining alg } := by
  have hne : ¬ some (s.position n) = some 0 := fun h => hpos.ne' (Option.some.inj h)
  rw [openedContext_of_flag h, State.openedWith, if_neg hne, if_neg hne]
  rfl

/-- R26: an OPEN of zero length. -/
theorem openedContext_of_zero_length {s : State} {n : SlotId} (h : s.endPresentFlag n = true)
    (hpos : s.position n = 0) (alg : Algorithm) (generation : BitVec 8) :
    openedContext s n alg generation = { freeContext generation with
      state := .ending
      algorithm := some alg
      holdLimit := s.requestHoldLimit n
      gapTimeout := s.requestGapTimeout n
      declaredEnd := some 0
      chaining := initialChaining alg
      inFlight := 1 } := by
  rw [openedContext_of_flag h, hpos]; rfl

/-- R25: an OPEN that opens a stream for data ends OK. -/
theorem exec_openRequest_ok {s : State} {n : SlotId} {rest : List SlotId} {h : Handle} {alg : Algorithm}
    (hoffers : s.offers 1 n rest) (hpass : s.openFieldsPass n) (halg : s.requestAlgorithm n = some alg)
    (hfree : s.lowestFreeIs h) {c : StreamContext} (hc : openedContext s n alg ((s.stream h).generation + 1) = c)
    (hopened : c.state = .opened) :
    exec .openRequest s = .next (((s.taken rest).setStream h c).afterEndings
      [recordOf s n .ok (some { state := c.state, handle := h, generation := c.generation, absorbed := c.absorbed })]) := by
  have hc' : openedContext (s.taken rest) n alg (((s.taken rest).stream h).generation + 1) = c := hc
  rw [exec_openRequest hoffers, openOutcome_of_free (s := s.taken rest) hpass halg hfree, hc',
    if_neg (by rw [hopened]; decide), refuseNaming_eq, State.refOf, stream_setStream, if_pos rfl]
  rfl

/-- R26: an OPEN of zero length joins the Ready Queue as a finalize-only item. -/
theorem exec_openRequest_ending {s : State} {n : SlotId} {rest : List SlotId} {h : Handle} {alg : Algorithm}
    (hoffers : s.offers 1 n rest) (hpass : s.openFieldsPass n) (halg : s.requestAlgorithm n = some alg)
    (hfree : s.lowestFreeIs h) {c : StreamContext} (hc : openedContext s n alg ((s.stream h).generation + 1) = c)
    (hending : c.state = .ending) :
    exec .openRequest s = .next (joinReadyQueue n h .finalizeOnly ((s.taken rest).setStream h c)) := by
  have hc' : openedContext (s.taken rest) n alg (((s.taken rest).stream h).generation + 1) = c := hc
  rw [exec_openRequest hoffers, openOutcome_of_free (s := s.taken rest) hpass halg hfree, hc', if_pos hending]

/-- Settles O28. -/
theorem openIsCheckedAndAllocated : Obligations.OpenIsCheckedAndAllocated := by
  refine ⟨fun s n rest hoffers => ⟨fun hfail => ?invalid, fun hpass hfull => ?full⟩, ?free⟩
  case invalid => rw [exec_openRequest hoffers, openOutcome_of_invalid (s := s.taken rest) hfail, refuse_eq]; rfl
  case full => rw [exec_openRequest hoffers, openOutcome_of_full (s := s.taken rest) hpass hfull, refuse_eq]; rfl
  intro s n rest h alg hoffers hpass halg hfree generation c
  refine ⟨fun hend => ?_, fun hend hpos => ?_, fun hend hpos => ?_⟩
  · exact exec_openRequest_ok hoffers hpass halg hfree (openedContext_of_no_end hend alg _) rfl
  · exact exec_openRequest_ok hoffers hpass halg hfree (openedContext_of_end hend hpos alg _) rfl
  · exact exec_openRequest_ending hoffers hpass halg hfree (openedContext_of_zero_length hend hpos alg _) rfl

/-! ### ABORT and RELEASE (R66 to R69) -/

/-- R14: a handle stream FREE is named by no request. -/
theorem nameRefusal_of_free {s : State} {h : Handle} (hs : (s.stream h).state = .free) (generation : BitVec 8) :
    s.nameRefusal h generation = some .noStream := if_pos hs

theorem nameRefusal_of_stale {s : State} {h : Handle} {generation : BitVec 8} (hs : (s.stream h).state ≠ .free)
    (hg : (s.stream h).generation ≠ generation) : s.nameRefusal h generation = some .stale :=
  (if_neg hs).trans (if_neg hg)

/-- R66: the verdict of the checks, by the handle read and what names it. -/
theorem controlVerdict_cases (s : State) (n : SlotId) :
    (controlFields s n = none → controlVerdict s n = .refused .badRequest none) ∧
    (∀ h status, controlFields s n = some h → s.nameRefusal h (s.generationByte n) = some status →
      controlVerdict s n = .refused status none) ∧
    ∀ h, controlFields s n = some h → s.nameRefusal h (s.generationByte n) = none →
      controlVerdict s n =
        if (s.stream h).pendingControl.isSome then .refused .wrongState (some h) else .passed h := by
  unfold controlVerdict
  exact ⟨fun hf => by rw [hf], fun h status hf hr => by simp only [hf, hr], fun h hf hr => by simp only [hf, hr]⟩

theorem controlVerdict_of_fields {s : State} {n : SlotId} (h : 64 ≤ (s.handleByte n).toNat ∨ s.flagBits n ≠ 0) :
    controlVerdict s n = .refused .badRequest none :=
  (controlVerdict_cases s n).1 (controlFields_eq_none s n h)

theorem controlVerdict_of_refusal {s : State} {n : SlotId} {h : Handle} {status : Status} (hf : s.flagBits n = 0)
    (hb : (s.handleByte n).toNat = h.val) (hr : s.nameRefusal h (s.generationByte n) = some status) :
    controlVerdict s n = .refused status none :=
  (controlVerdict_cases s n).2.1 h status (controlFields_eq_some s n h hf hb) hr

theorem controlVerdict_of_names {s : State} {n : SlotId} {h : Handle} (hf : s.flagBits n = 0) (hn : s.names n h) :
    controlVerdict s n =
      if (s.stream h).pendingControl.isSome then .refused .wrongState (some h) else .passed h :=
  (controlVerdict_cases s n).2.2 h (controlFields_eq_some s n h hf (handleOfByte_toNat _ _ hn.1))
    (nameRefusal_of_names s n h hn)

theorem controlVerdict_passed {s : State} {n : SlotId} {h : Handle} (hf : s.flagBits n = 0) (hn : s.names n h)
    (hp : (s.stream h).pendingControl = none) : controlVerdict s n = .passed h := by
  rw [controlVerdict_of_names hf hn, hp]; rfl

/-- The command is an ABORT or a RELEASE, of its own kind byte. -/
def isControl (cmd : Instr) (kind : Byte) : Prop :=
  cmd = .abortRequest ∧ kind = 3 ∨ cmd = .releaseRequest ∧ kind = 4

/-- R66, R69: what a RELEASE comes to, by the verdict of its checks. -/
theorem releaseOutcome_cases (n : SlotId) (s : State) :
    (∀ status, controlVerdict s n = .refused status none → releaseOutcome n s = refuse n status s) ∧
    (∀ status h, controlVerdict s n = .refused status (some h) → releaseOutcome n s = refuseNaming n status h s) ∧
    ∀ h, controlVerdict s n = .passed h → releaseOutcome n s = releaseStream n h s := by
  unfold releaseOutcome
  exact ⟨fun status hv => by rw [hv], fun status h hv => by rw [hv], fun h hv => by rw [hv]⟩

/-- R66, R68: what an ABORT comes to, by the verdict of its checks; one of a stream neither OPEN nor ENDING acts as a
RELEASE. -/
theorem abortOutcome_cases (n : SlotId) (s : State) :
    (∀ status, controlVerdict s n = .refused status none → abortOutcome n s = refuse n status s) ∧
    (∀ status h, controlVerdict s n = .refused status (some h) → abortOutcome n s = refuseNaming n status h s) ∧
    (∀ h, controlVerdict s n = .passed h → (s.stream h).state = .opened ∨ (s.stream h).state = .ending →
      abortOutcome n s = tearDownForAbort n h s) ∧
    ∀ h, controlVerdict s n = .passed h → (s.stream h).state ≠ .opened → (s.stream h).state ≠ .ending →
      abortOutcome n s = releaseStream n h s := by
  unfold abortOutcome
  refine ⟨fun status hv => by rw [hv], fun status h hv => by rw [hv], fun h hv hstate => ?_,
    fun h hv hopened hending => ?_⟩
  · obtain hst | hst := hstate <;> simp only [hv, hst]
  · simp only [hv]

/-- R66: an ABORT or RELEASE refused with no stream named. -/
theorem exec_control_refused {cmd : Instr} {kind : Byte} {s : State} {n : SlotId} {rest : List SlotId} {status : Status}
    (hcmd : isControl cmd kind) (hoffers : s.offers kind n rest) (hv : controlVerdict s n = .refused status none) :
    exec cmd s = .next ((s.taken rest).afterEndings [recordOf s n status none]) := by
  obtain ⟨rfl, rfl⟩ | ⟨rfl, rfl⟩ := hcmd
  · rw [exec_abortRequest hoffers, (abortOutcome_cases n (s.taken rest)).1 status hv, refuse_eq]
    rfl
  · rw [exec_releaseRequest hoffers, (releaseOutcome_cases n (s.taken rest)).1 status hv, refuse_eq]
    rfl

/-- R66: an ABORT or RELEASE refused once it names a stream. -/
theorem exec_control_refused_naming {cmd : Instr} {kind : Byte} {s : State} {n : SlotId} {rest : List SlotId}
    {status : Status} {h : Handle} (hcmd : isControl cmd kind) (hoffers : s.offers kind n rest)
    (hv : controlVerdict s n = .refused status (some h)) :
    exec cmd s = .next ((s.taken rest).afterEndings [recordOf s n status (some (s.refOf h))]) := by
  obtain ⟨rfl, rfl⟩ | ⟨rfl, rfl⟩ := hcmd
  · rw [exec_abortRequest hoffers, (abortOutcome_cases n (s.taken rest)).2.1 status h hv, refuseNaming_eq]
    rfl
  · rw [exec_releaseRequest hoffers, (releaseOutcome_cases n (s.taken rest)).2.1 status h hv, refuseNaming_eq]
    rfl

/-- R68, R69: a RELEASE, and an ABORT of a stream neither OPEN nor ENDING, acts as R69 says. -/
theorem exec_control_release {cmd : Instr} {kind : Byte} {s : State} {n : SlotId} {rest : List SlotId} {h : Handle}
    (hcmd : isControl cmd kind) (hoffers : s.offers kind n rest) (hv : controlVerdict s n = .passed h)
    (hstate : cmd = .releaseRequest ∨ (s.stream h).state ≠ .opened ∧ (s.stream h).state ≠ .ending) :
    exec cmd s = .next (releaseStream n h (s.taken rest)) := by
  obtain ⟨rfl, rfl⟩ | ⟨rfl, rfl⟩ := hcmd
  · obtain ⟨hopened, hending⟩ := hstate.resolve_left (by simp)
    rw [exec_abortRequest hoffers, (abortOutcome_cases n (s.taken rest)).2.2.2 h hv hopened hending]
  · rw [exec_releaseRequest hoffers, (releaseOutcome_cases n (s.taken rest)).2.2 h hv]

/-- R69: the states that no RELEASE, nor an ABORT acting as one, acts on. -/
theorem releaseStream_of_other {s : State} {n : SlotId} {h : Handle} (hfinal : (s.stream h).state ≠ .final)
    (hfaulted : (s.stream h).state ≠ .faulted) : releaseStream n h s = refuseNaming n .wrongState h s := by
  unfold releaseStream
  split
  next hst => exact absurd hst hfinal
  next hst => exact absurd hst hfaulted
  next => rfl

/-- R69: a finished stream is freed at the take. -/
theorem releaseStream_of_finished {s : State} {n : SlotId} {h : Handle}
    (hs : (s.stream h).state = .final ∨ (s.stream h).state = .faulted ∧ (s.stream h).inFlight = 0) :
    releaseStream n h s = (freeStream h s).afterEndings [recordOf s n .ok (some (s.freedRef h))] := by
  rw [← complete_congr (s := s) (t := freeStream h s) rfl]
  obtain hs | ⟨hs, hflight⟩ := hs
  · simp only [releaseStream, hs]
  · simp only [releaseStream, hs, hflight, if_true]

/-- R69: a FAULTED stream with an item in flight keeps the request waiting. -/
theorem releaseStream_of_waiting {s : State} {n : SlotId} {h : Handle} (hs : (s.stream h).state = .faulted)
    (hflight : 0 < (s.stream h).inFlight) : releaseStream n h s = waitAsControl n h s := by
  simp only [releaseStream, hs]
  exact if_neg (Nat.pos_iff_ne_zero.1 hflight)

/-- Settles O33. -/
theorem abortAndReleaseAreRefused : Obligations.AbortAndReleaseAreRefused := by
  intro cmd kind s n rest hcmd hoffers refused
  refine ⟨fun h => exec_control_refused hcmd hoffers (controlVerdict_of_fields h), ?_⟩
  intro h hf hb c ref
  refine ⟨fun hfree => ?_, fun halloc hstale => ?_,
    fun hn => ⟨fun hp => ?_, fun hp hstate => ?_, fun hp hrelease hstate => ?_⟩⟩
  · exact exec_control_refused hcmd hoffers (controlVerdict_of_refusal hf hb (nameRefusal_of_free hfree _))
  · exact exec_control_refused hcmd hoffers (controlVerdict_of_refusal hf hb (nameRefusal_of_stale halloc hstale))
  · refine exec_control_refused_naming hcmd hoffers ?_
    rw [controlVerdict_of_names hf hn, if_pos (Option.isSome_iff_ne_none.2 hp)]
  · have hother : ∀ st, st = StreamState.aborting ∨ st = .exporting ∨ st = .importing →
        (st ≠ .opened ∧ st ≠ .ending) ∧ st ≠ .final ∧ st ≠ .faulted := by
      rintro _ (rfl | rfl | rfl) <;> decide
    obtain ⟨hactive, hfinal, hfaulted⟩ := hother _ hstate
    refine (exec_control_release hcmd hoffers (controlVerdict_passed hf hn hp) (.inr hactive)).trans ?_
    rw [releaseStream_of_other (s := s.taken rest) hfinal hfaulted, refuseNaming_eq]
    rfl
  · have hother : ∀ st, st = StreamState.opened ∨ st = .ending → st ≠ .final ∧ st ≠ .faulted := by
      rintro _ (rfl | rfl) <;> decide
    obtain ⟨hfinal, hfaulted⟩ := hother _ hstate
    refine (exec_control_release hcmd hoffers (controlVerdict_passed hf hn hp) (.inl hrelease)).trans ?_
    rw [releaseStream_of_other (s := s.taken rest) hfinal hfaulted, refuseNaming_eq]
    rfl

/-- Settles O35. -/
theorem releaseFreesFinishedStream : Obligations.ReleaseFreesFinishedStream := by
  intro cmd kind s n rest h hcmd hoffers hf hn hp c
  have hpassed := controlVerdict_passed hf hn hp
  refine ⟨fun hstate => ?_, fun hstate hflight => ?_⟩
  · have hother : c.state ≠ .opened ∧ c.state ≠ .ending := by
      obtain hst | ⟨hst, -⟩ := hstate <;> rw [hst] <;> decide
    refine (exec_control_release hcmd hoffers hpassed (.inr hother)).trans ?_
    rw [releaseStream_of_finished (s := s.taken rest) hstate]
    rfl
  · have hother : c.state ≠ .opened ∧ c.state ≠ .ending := by rw [hstate]; decide
    refine (exec_control_release hcmd hoffers hpassed (.inr hother)).trans ?_
    rw [releaseStream_of_waiting (s := s.taken rest) hstate hflight]
    rfl

/-! ### ABORT of a stream in OPEN or ENDING (R68, R62 to R65) -/

theorem exec_abortRequest_tearDown {s : State} {n : SlotId} {rest : List SlotId} {h : Handle}
    (hoffers : s.offers 3 n rest) (hv : controlVerdict s n = .passed h)
    (hstate : (s.stream h).state = .opened ∨ (s.stream h).state = .ending) :
    exec .abortRequest s = .next (tearDownForAbort n h (s.taken rest)) := by
  rw [exec_abortRequest hoffers, (abortOutcome_cases n (s.taken rest)).2.2.1 h hv hstate]

/-- R62: the records of an ABORT's teardown, in the order of the statement. -/
theorem removedWork_abandoned (h : Handle) (s : State) (ref : StreamRef) :
    (removedWork h .abandoned s).map (fun e => recordOf s e.1 e.2 (some ref)) =
      ((s.ap.readyQueue.filter (·.stream == h)).map (·.slot) ++ (s.stream h).holdList).map
        fun m => recordOf s m .abandoned (some ref) := by
  simp [removedWork_records, Function.comp_def]

theorem hasActive_eq_false {s : State} {h : Handle} (hn : ∀ item, s.ap.active = some item → item.stream ≠ h) :
    s.hasActive h = false := by
  cases ha : s.ap.active with
  | none => simp [State.hasActive, ha]
  | some item => simpa [State.hasActive, ha] using hn item ha

theorem hasActive_eq_true {s : State} {h : Handle} {item : ActiveItem} (ha : s.ap.active = some item)
    (hh : item.stream = h) : s.hasActive h = true := by
  simp [State.hasActive, ha, hh]

/-- R68: with no active item of its own the stream is freed, and the ABORT ends last. -/
theorem tearDownForAbort_of_idle {s : State} {n : SlotId} {h : Handle} (ha : s.hasActive h = false) :
    tearDownForAbort n h s = (s.tornDown h (freeContext (s.stream h).generation)).afterEndings
      ((removedWork h .abandoned s).map (fun e => recordOf s e.1 e.2 (some (s.freedRef h))) ++
        [recordOf s n .ok (some (s.freedRef h))]) := by
  have hfreed : freeStream h (removeWork h s) = s.tornDown h (freeContext (s.stream h).generation) :=
    updateStream_tornDown s h (s.emptied h) fun c => freeContext c.generation
  simp only [tearDownForAbort, ha, Bool.false_eq_true, if_false, hfreed]
  rw [completeAll_congr (s := s) (t := s.tornDown h _) rfl, List.map_append]
  rfl

/-- R68, R67: the context of a stream whose ABORT waits for its active item. -/
def State.aborted (s : State) (h : Handle) (n : SlotId) : StreamContext :=
  { s.emptied h with state := .aborting, pendingControl := some n }

theorem setSlot_cutActive (h : Handle) (s : State) (n : SlotId) (st : SlotState) :
    (cutActive h s).setSlot n st = cutActive h (s.setSlot n st) := by
  by_cases hcut : ∃ item, s.ap.active = some item ∧ item.stream = h ∧ s.dc.mode ≠ .finalizing
  · obtain ⟨item, ha, hh, hmode⟩ := hcut
    rw [cutActive_cut h s item ha hh hmode, cutActive_cut h (s.setSlot n st) item ha hh hmode]
    rfl
  · have hnone : ∀ item, s.ap.active = some item → item.stream = h → s.dc.mode = .finalizing :=
      fun item ha hh => by_contra fun hmode => hcut ⟨item, ha, hh, hmode⟩
    rw [cutActive_none h s hnone, cutActive_none h (s.setSlot n st) hnone]

theorem waitAsControl_eq (n : SlotId) (h : Handle) (s : State) :
    waitAsControl n h s = (s.updateStream h fun c => { c with pendingControl := some n }).setSlot n .waiting := rfl

/-- R68, R67: with an active item of its own the stream is ABORTING and the ABORT waits. -/
theorem tearDownForAbort_of_active {s : State} {n : SlotId} {h : Handle} (ha : s.hasActive h = true) :
    tearDownForAbort n h s = (cutActive h ((s.tornDown h (s.aborted h n)).setSlot n .waiting)).afterEndings
      ((removedWork h .abandoned s).map fun e =>
        recordOf s e.1 e.2 (some { s.refOf h with state := .aborting })) := by
  have hwait : waitAsControl n h ((cutActive h (removeWork h s)).updateStream h fun c => { c with state := .aborting }) =
      cutActive h ((s.tornDown h (s.aborted h n)).setSlot n .waiting) := by
    rw [waitAsControl_eq, updateStream_updateStream, updateStream_cutActive, removeWork_eq,
      updateStream_tornDown, setSlot_cutActive]
    rfl
  have href : (cutActive h ((s.tornDown h (s.aborted h n)).setSlot n .waiting)).refOf h =
      { s.refOf h with state := .aborting } := by
    have hstream : ((s.tornDown h (s.aborted h n)).setSlot n .waiting).stream h = s.aborted h n :=
      (stream_tornDown s h h _).trans (if_pos rfl)
    simp only [State.refOf, cutActive_stream, hstream]
    rfl
  simp only [tearDownForAbort, ha, if_true, hwait, href]
  exact completeAll_congr (by rw [cutActive_rss]; rfl) _ _

/-- Settles O34. -/
theorem abortTearsStreamDown : Obligations.AbortTearsStreamDown := by
  intro s n rest h hoffers hf hn hp hstate c dropped kept abandoned freed aborting waiting
  have hexec := exec_abortRequest_tearDown hoffers (controlVerdict_passed hf hn hp) hstate
  refine ⟨fun hidle => ?_, fun item ha hh => ⟨fun hmode => ?_, fun hmode => ?_⟩⟩
  · rw [hexec, tearDownForAbort_of_idle (s := s.taken rest) (hasActive_eq_false hidle), removedWork_abandoned]
    rfl
  · rw [hexec, tearDownForAbort_of_active (s := s.taken rest) (hasActive_eq_true ha hh), removedWork_abandoned,
      cutActive_cut h (((s.taken rest).tornDown h _).setSlot n .waiting) item ha hh hmode]
    rfl
  · rw [hexec, tearDownForAbort_of_active (s := s.taken rest) (hasActive_eq_true ha hh), removedWork_abandoned,
      cutActive_none h (((s.taken rest).tornDown h _).setSlot n .waiting) fun _ _ _ => hmode]
    rfl

/-! ### EXPORT and IMPORT (R139 to R142) -/

theorem isAligned_iff (address : Word) : isAligned address = true ↔ address.toNat % 64 = 0 := by
  simp [isAligned]

theorem isAligned_eq_false {address : Word} (h : address.toNat % 64 ≠ 0) : isAligned address = false := by
  simpa [isAligned] using h

theorem exportOutcome_of_fields {s : State} {n : SlotId} (h : 64 ≤ (s.handleByte n).toNat ∨ s.flagBits n ≠ 0) :
    exportOutcome n s = refuse n .badRequest s := by
  simp only [exportOutcome, controlFields_eq_none s n h]

/-- R139: an EXPORT whose fields pass is checked for its alignment, its name, its state and its quiet, in this order. -/
theorem exportOutcome_of_fields_pass {s : State} {n : SlotId} {h : Handle} (hf : s.flagBits n = 0)
    (hb : (s.handleByte n).toNat = h.val) :
    exportOutcome n s =
      if isAligned (s.hostAddress n) = false then refuse n .badAlign s
      else (s.nameRefusal h (s.generationByte n)).elim
        (if (s.stream h).state ≠ .opened then refuseNaming n .wrongState h s
         else if (s.stream h).holdList ≠ [] ∨ 0 < (s.stream h).inFlight then refuseNaming n .notQuiescent h s
         else joinTransferQueue n h .exporting (s.setStream h { s.stream h with state := .exporting }))
        (refuse n · s) := by
  simp only [exportOutcome, controlFields_eq_some s n h hf hb]
  cases s.nameRefusal h (s.generationByte n) <;> rfl

/-- Settles O36. -/
theorem exportIsCheckedAndQueued : Obligations.ExportIsCheckedAndQueued := by
  intro s n rest hoffers refused
  refine ⟨fun hfields => ?_, ?_⟩
  · change exec .exportRequest s = _
    rw [exec_exportRequest hoffers, exportOutcome_of_fields (s := s.taken rest) hfields, refuse_eq]
    rfl
  intro h hf hb c ref
  have hexec := (exec_exportRequest hoffers).trans
    (congrArg _ (exportOutcome_of_fields_pass (s := s.taken rest) hf hb))
  refine ⟨fun halign => ?_, fun halign => ?_⟩
  · exact hexec.trans (by rw [if_pos (isAligned_eq_false (by exact halign)), refuse_eq]; rfl)
  have haligned : ¬ isAligned ((s.taken rest).hostAddress n) = false := by
    rw [Bool.not_eq_false]; exact (isAligned_iff _).2 halign
  rw [if_neg haligned] at hexec
  refine ⟨fun hfree => ?_, fun halloc hstale => ?_, fun hn => ?_⟩
  · rw [nameRefusal_of_free (s := s.taken rest) hfree] at hexec
    exact hexec.trans (congrArg _ (refuse_eq _ _ _))
  · rw [nameRefusal_of_stale (s := s.taken rest) (generation := (s.taken rest).generationByte n) halloc hstale] at hexec
    exact hexec.trans (congrArg _ (refuse_eq _ _ _))
  · rw [nameRefusal_of_names (s.taken rest) n h hn] at hexec
    refine ⟨fun hstate => hexec.trans ?_, fun hstate hbusy => hexec.trans ?_,
      fun hstate hheld hflight => hexec.trans ?_⟩
    · exact congrArg _ ((if_pos hstate).trans (refuseNaming_eq _ _ _ _))
    · exact congrArg _ ((if_neg (not_not.2 hstate)).trans ((if_pos hbusy).trans (refuseNaming_eq _ _ _ _)))
    · have hquiet : ¬ (c.holdList ≠ [] ∨ 0 < c.inFlight) := by simp [hheld, hflight]
      exact congrArg _ ((if_neg (not_not.2 hstate)).trans (if_neg hquiet))

/-- Settles O37. -/
theorem importIsCheckedAndQueued : Obligations.ImportIsCheckedAndQueued := by
  intro s n rest hoffers refused
  have hexec : exec .importRequest s = .next (importOutcome n (s.taken rest)) := exec_importRequest hoffers
  refine ⟨fun hflags => ?_, fun hf halign => ?_, fun hf halign hfull => ?_, fun h hf halign hfree => ?_⟩
  · exact hexec.trans (congrArg _ ((if_pos hflags).trans (refuse_eq _ _ _)))
  · exact hexec.trans (congrArg _ ((if_neg (not_not.2 hf)).trans
      ((if_pos (isAligned_eq_false halign)).trans (refuse_eq _ _ _))))
  all_goals
    have haligned : ¬ isAligned ((s.taken rest).hostAddress n) = false := by
      rw [Bool.not_eq_false]; exact (isAligned_iff _).2 halign
    refine hexec.trans (congrArg _ ((if_neg (not_not.2 hf)).trans ((if_neg haligned).trans ?_)))
  · rw [lowestFree_of_noneFree (s.taken rest) hfull]
    exact refuse_eq _ _ _
  · rw [lowestFree_of_lowestFreeIs (s.taken rest) h hfree]
    rfl

end Sys2Proof.Machine
end

section
/-! PROOF. The Dispatcher's take of a FRAGMENT (R29 to R48): refused by the first check that fails, accepted at the
frontier with what follows it, or held. -/

namespace Sys2Proof.Machine

/-! ### The verdict on a FRAGMENT -/

/-- R30, R37: a FRAGMENT refused with no stream named. -/
theorem exec_fragmentRequest_refused {s : State} {n : SlotId} {rest : List SlotId} {status : Status}
    (hoffers : s.offers 2 n rest) (hv : fragmentVerdict s n = .refused status none) :
    exec .fragmentRequest s = .next ((s.taken rest).afterEndings [recordOf s n status none]) := by
  have hv' : fragmentVerdict (s.taken rest) n = .refused status none := hv
  rw [exec_fragmentRequest hoffers]
  simp only [fragmentOutcome, hv', refuse_eq]
  rfl

/-- R30, R37: a FRAGMENT refused once a stream is matched. -/
theorem exec_fragmentRequest_refused_naming {s : State} {n : SlotId} {rest : List SlotId} {status : Status} {h : Handle}
    (hoffers : s.offers 2 n rest) (hv : fragmentVerdict s n = .refused status (some h)) :
    exec .fragmentRequest s = .next ((s.taken rest).afterEndings [recordOf s n status (some (s.refOf h))]) := by
  have hv' : fragmentVerdict (s.taken rest) n = .refused status (some h) := hv
  rw [exec_fragmentRequest hoffers]
  simp only [fragmentOutcome, hv', refuseNaming_eq]
  rfl

theorem fragmentVerdict_of_fields {s : State} {n : SlotId} (hf : ¬ s.fragmentFieldsPass n) :
    fragmentVerdict s n = .refused .badRequest none := by
  simp only [fragmentVerdict, fragmentFields_eq_none s n hf]

theorem fragmentVerdict_of_refusal {s : State} {n : SlotId} {h : Handle} {status : Status}
    (hf : s.fragmentFieldsPass n) (hb : (s.handleByte n).toNat = h.val)
    (hr : s.nameRefusal h (s.generationByte n) = some status) : fragmentVerdict s n = .refused status none := by
  simp only [fragmentVerdict, fragmentFields_eq_some s n h hf hb, hr]

/-- R32 to R36, R42: checks 3 to 8 of a FRAGMENT matched to stream `h`, in their order. -/
theorem fragmentVerdict_of_names {s : State} {n : SlotId} {h : Handle} (hf : s.fragmentFieldsPass n)
    (hn : s.names n h) :
    fragmentVerdict s n =
      if (s.stream h).state ≠ .opened ∧ (s.stream h).state ≠ .ending then .refused .wrongState (some h)
      else if s.position n < (s.stream h).frontier then .refused .overlap (some h)
      else if (s.stream h).declaredEnd.any (· < s.fragmentEnd n) then .refused .beyondEnd (some h)
      else if endConflicts s n (s.stream h) then .refused .endConflict (some h)
      else if (s.stream h).holdList.any (rangesOverlap s n) then .refused .overlap (some h)
      else if s.position n = (s.stream h).frontier then .inOrder h
      else if (s.stream h).holdList.length = (s.stream h).holdLimit ∨ s.ou.heldCount = Config.holdCap then
        .refused .holdFull (some h)
      else .held h := by
  simp only [fragmentVerdict, fragmentFields_eq_some s n h hf (handleOfByte_toNat _ _ hn.1),
    nameRefusal_of_names s n h hn]

/-- R34: the check against the declared end. -/
theorem any_declaredEnd_lt_iff (d : Option Nat) (stop : Nat) :
    d.any (· < stop) = true ↔ ∃ e, d = some e ∧ e < stop := by
  cases d <;> simp

/-- Settles O29: each clause takes the chain of checks to its first failure. -/
theorem fragmentIsRefused : Obligations.FragmentIsRefused := by
  intro s n rest hoffers refused
  refine ⟨fun hf => exec_fragmentRequest_refused hoffers (fragmentVerdict_of_fields hf), ?_⟩
  intro h hf hb c ref
  refine ⟨fun hfree => ?_, fun halloc hstale => ?_, fun hn => ?_⟩
  · exact exec_fragmentRequest_refused hoffers (fragmentVerdict_of_refusal hf hb (nameRefusal_of_free hfree _))
  · exact exec_fragmentRequest_refused hoffers (fragmentVerdict_of_refusal hf hb (nameRefusal_of_stale halloc hstale))
  have hverdict := fragmentVerdict_of_names hf hn
  refine ⟨fun hopened hending => ?_, fun hstate => ?_⟩
  · exact exec_fragmentRequest_refused_naming hoffers (hverdict.trans (if_pos ⟨hopened, hending⟩))
  rw [if_neg (not_and_or.2 (hstate.imp not_not.2 not_not.2))] at hverdict
  refine ⟨fun hbelow => ?_, fun habove => ?_⟩
  · exact exec_fragmentRequest_refused_naming hoffers (hverdict.trans (if_pos hbelow))
  rw [if_neg (Nat.not_lt.2 habove)] at hverdict
  refine ⟨fun e he hbeyond => ?_, fun hwithin => ?_⟩
  · exact exec_fragmentRequest_refused_naming hoffers
      (hverdict.trans (if_pos ((any_declaredEnd_lt_iff _ _).2 ⟨e, he, hbeyond⟩)))
  have hnotBeyond : ¬ c.declaredEnd.any (· < s.fragmentEnd n) = true := by
    rw [any_declaredEnd_lt_iff]
    rintro ⟨e, he, hlt⟩
    exact absurd hlt (Nat.not_lt.2 (hwithin e he))
  rw [if_neg hnotBeyond] at hverdict
  refine ⟨fun hconflict => ?_, fun hagrees hoverlap => ?_, fun hagrees hclear hearly hfull => ?_⟩
  · exact exec_fragmentRequest_refused_naming hoffers
      (hverdict.trans (if_pos ((endConflicts_iff s n c).2 hconflict)))
  all_goals rw [if_neg fun hh => (endConflicts_iff s n c).1 hh hagrees] at hverdict
  · exact exec_fragmentRequest_refused_naming hoffers
      (hverdict.trans (if_pos ((any_rangesOverlap_iff s n c).2 hoverlap)))
  · rw [if_neg fun hh => (any_rangesOverlap_iff s n c).1 hh hclear, if_neg (Nat.ne_of_gt hearly)] at hverdict
    exact exec_fragmentRequest_refused_naming hoffers (hverdict.trans (if_pos hfull))

/-! ### A FRAGMENT accepted or held (R38 to R44) -/

/-- R40: the gap timer after an acceptance that leaves some fragments held. -/
theorem reloadedTimer_eq (left : List SlotId) (timeout : BitVec 16) :
    (if left = [] then none else loadedTimer timeout) =
      if left = [] ∨ timeout = 0 then none else some (timeout.toNat * 1000) := by
  by_cases hl : left = []
  · simp [hl]
  · simp [hl, loadedTimer, Config.ticksPerMs]

/-- R44: the gap timer after a FRAGMENT is held. -/
theorem startedTimer_eq (held : List SlotId) (timeout : BitVec 16) (timer : Option Nat) :
    (if held = [] then loadedTimer timeout else timer) =
      if held ≠ [] then timer else if timeout = 0 then none else some (timeout.toNat * 1000) := by
  by_cases hh : held = []
  · simp [hh, loadedTimer, Config.ticksPerMs]
  · simp [hh]

/-- R38 to R41: what an acceptance makes of the context. -/
def State.accepting (s : State) (n : SlotId) (h : Handle) (promoted left : List SlotId) (reached : Nat) :
    StreamContext :=
  { s.stream h with
    state := if declaredEndAfter s n (s.stream h) = some reached then .ending else (s.stream h).state
    frontier := reached
    declaredEnd := declaredEndAfter s n (s.stream h)
    holdList := left
    inFlight := (s.stream h).inFlight + 1 + promoted.length
    gapTimer := if left = [] then none else loadedTimer (s.stream h).gapTimeout }

/-- R38, R39: an acceptance, once the run of held fragments promoted is known. -/
theorem acceptInOrder_eq {s : State} {n : SlotId} {h : Handle} {promoted left : List SlotId} {reached : Nat}
    (hp : promote s ((s.stream h).frontier + s.fragmentLength n) (s.stream h).holdList = (promoted, left, reached)) :
    acceptInOrder n h s = { s with
      rss.states := markSlots s.rss.states (n :: promoted) .ready
      ou := { streams := s.ou.streams.set h (s.accepting n h promoted left reached)
              heldCount := s.ou.heldCount - promoted.length }
      ap.readyQueue := s.ap.readyQueue ++
        (n :: promoted).map fun m => { slot := m, stream := h, kind := .fragment } } := by
  simp only [acceptInOrder, hp, setSlots_eq]
  rfl

/-- Settles O30. -/
theorem fragmentInOrderIsAccepted : Obligations.FragmentInOrderIsAccepted := by
  intro s n rest h promoted left reached hoffers hf hn hfits hpos hheld hrun hleft c declaredEnd
  have hverdict : fragmentVerdict (s.taken rest) n = .inOrder h :=
    (fragmentVerdict_of_fits s n h hf hn hfits).trans (if_pos hpos)
  have hpromote : promote (s.taken rest) (((s.taken rest).stream h).frontier + (s.taken rest).fragmentLength n)
      ((s.taken rest).stream h).holdList = (promoted, left, reached) := by
    rw [promote_congr (s := s) (t := s.taken rest) rfl]
    change promote s ((s.stream h).frontier + s.fragmentLength n) (s.stream h).holdList = _
    rw [hheld, ← hpos]
    exact promote_eq s _ reached promoted left hrun hleft
  rw [exec_fragmentRequest hoffers]
  simp only [fragmentOutcome, hverdict, acceptInOrder_eq hpromote, State.accepting, reloadedTimer_eq]
  rfl

/-- Settles O31. -/
theorem earlyFragmentIsHeld : Obligations.EarlyFragmentIsHeld := by
  intro s n rest h before after hoffers hf hn hfits hearly hroom hcap hheld hbefore hafter c
  have hverdict : fragmentVerdict (s.taken rest) n = .held h :=
    (fragmentVerdict_of_fits s n h hf hn hfits).trans
      ((if_neg (Nat.ne_of_gt hearly)).trans (if_neg (not_or.2 ⟨hroom, hcap⟩)))
  have hinsert : insertHeld (s.taken rest) n ((s.taken rest).stream h).holdList = before ++ n :: after := by
    rw [insertHeld_congr (s := s) (t := s.taken rest) rfl]
    change insertHeld s n (s.stream h).holdList = _
    rw [hheld]
    exact insertHeld_eq s n before after hbefore hafter
  rw [exec_fragmentRequest hoffers]
  simp only [fragmentOutcome, hverdict, holdFragment, hinsert, startedTimer_eq]
  rfl

end Sys2Proof.Machine
end

section
/-! PROOF. What every take of a request keeps of the hold lists (R45, R15, R41, R47). -/

namespace Sys2Proof.Machine

/-! ### Contexts in order -/

/-- R45, R15, R41: what `holdsOrdered` says of one context. -/
def State.orderly (s : State) (c : StreamContext) : Prop :=
  ((c.state = .opened ∨ c.state = .exporting) → holdOrdered s c) ∧
  (c.state = .ending → c.holdList = [] ∧ c.declaredEnd = some c.frontier)

theorem holdsOrdered_iff (s : State) :
    s.holdsOrdered ↔ (∀ h, s.orderly (s.stream h)) ∧ s.ou.heldCount ≤ Config.holdCap := by
  refine ⟨fun ⟨hopen, hend, hcap⟩ => ⟨fun h => ⟨hopen h, hend h⟩, hcap⟩, fun ⟨hs, hcap⟩ => ⟨fun h => (hs h).1,
    fun h => (hs h).2, hcap⟩⟩

/-- R29: whether a context is in order is read from the slot words alone. -/
theorem orderly_congr {s t : State} (hw : t.rss.words = s.rss.words) {c : StreamContext} (h : s.orderly c) :
    t.orderly c := by
  simpa only [State.orderly, holdOrdered, position_congr hw, fragmentLength_congr hw, fragmentEnd_congr hw] using h

/-- R11: a context in one of the other states has no hold list to keep in order. -/
theorem orderly_of_state {s : State} {c : StreamContext}
    (h : c.state ≠ .opened ∧ c.state ≠ .exporting ∧ c.state ≠ .ending) : s.orderly c :=
  ⟨fun hst => absurd hst (not_or.2 ⟨h.1, h.2.1⟩), fun hst => absurd hst h.2.2⟩

/-- R41: a context in ENDING. -/
theorem orderly_of_ending {s : State} {c : StreamContext} (hst : c.state = .ending) (hheld : c.holdList = [])
    (hend : c.declaredEnd = some c.frontier) : s.orderly c :=
  ⟨fun h => by rw [hst] at h; simp at h, fun _ => ⟨hheld, hend⟩⟩

/-- What leads from `s` to `t` leaves the slot words, and each context as it was or in order. -/
def keepsOrder (s t : State) : Prop :=
  t.rss.words = s.rss.words ∧ ∀ k, t.stream k = s.stream k ∨ s.orderly (t.stream k)

theorem keepsOrder.of_frame {s t : State} (hw : t.rss.words = s.rss.words) (hs : t.ou.streams = s.ou.streams) :
    keepsOrder s t := ⟨hw, fun k => .inl (by rw [stream_congr hs])⟩

theorem keepsOrder.of_set {s t : State} {h : Handle} {c : StreamContext} (hw : t.rss.words = s.rss.words)
    (hs : t.ou.streams = s.ou.streams.set h c) (hc : s.orderly c) : keepsOrder s t := by
  refine ⟨hw, fun k => ?_⟩
  have hk : t.stream k = (s.setStream h c).stream k := congrFun (stream_congr (s := s.setStream h c) hs) k
  rw [hk, stream_setStream]
  split
  · exact .inr hc
  · exact .inl rfl

theorem keepsOrder.orderly {s t : State} (hst : keepsOrder s t) (hs : ∀ k, s.orderly (s.stream k)) :
    ∀ k, t.orderly (t.stream k) := by
  obtain ⟨hw, hk⟩ := hst
  exact fun k => orderly_congr hw ((hk k).elim (fun h => h ▸ hs k) id)

theorem keepsOrder_complete (n : SlotId) (status : Status) (named : Option StreamRef) (s : State) :
    keepsOrder s (complete n status named s) := by
  rw [complete_eq]; exact .of_frame rfl rfl

/-! ### A FRAGMENT accepted in order -/

/-- R30 to R36, R42: what is known of a FRAGMENT whose verdict is not a refusal. -/
theorem fits_of_verdict {s : State} {n : SlotId} {h : Handle}
    (hv : fragmentVerdict s n = .inOrder h ∨ fragmentVerdict s n = .held h) :
    s.fragmentFieldsPass n ∧ s.names n h ∧ s.fragmentFits n (s.stream h) := by
  by_cases hf : s.fragmentFieldsPass n
  swap
  · simp [fragmentVerdict_of_fields hf] at hv
  obtain ⟨k, hb⟩ : ∃ k : Handle, (s.handleByte n).toNat = k.val := ⟨⟨_, hf.2.2.2.2⟩, rfl⟩
  by_cases hfree : (s.stream k).state = .free
  · simp [fragmentVerdict_of_refusal hf hb (nameRefusal_of_free hfree _)] at hv
  by_cases hgen : (s.stream k).generation = s.generationByte n
  swap
  · simp [fragmentVerdict_of_refusal hf hb (nameRefusal_of_stale hfree hgen)] at hv
  have hn : s.names n k := ⟨handleOfByte_eq_some _ _ hb, hfree, hgen⟩
  rw [fragmentVerdict_of_names hf hn] at hv
  split at hv
  · simp at hv
  next hstate =>
  split at hv
  · simp at hv
  next hbelow =>
  split at hv
  · simp at hv
  next hbeyond =>
  split at hv
  · simp at hv
  next hconflict =>
  split at hv
  · simp at hv
  next hoverlap =>
  have hh : k = h := by
    split at hv
    · simpa using hv
    · split at hv
      · simp at hv
      · simpa using hv
  subst hh
  refine ⟨hf, hn, ?_, Nat.not_lt.1 hbelow, fun e he => ?_, ?_, ?_⟩
  · exact (not_and_or.1 hstate).imp not_not.1 not_not.1
  · exact Nat.not_lt.1 fun hlt => hbeyond ((any_declaredEnd_lt_iff _ _).2 ⟨e, he, hlt⟩)
  · exact not_not.1 fun hh => hconflict ((endConflicts_iff s n _).2 hh)
  · exact not_not.1 fun hh => hoverlap ((any_rangesOverlap_iff s n _).2 hh)

/-- R30, R42: a FRAGMENT accepted in order lies at the frontier. -/
theorem position_of_inOrder {s : State} {n : SlotId} {h : Handle} (hv : fragmentVerdict s n = .inOrder h) :
    s.position n = (s.stream h).frontier := by
  obtain ⟨hf, hn, hfits⟩ := fits_of_verdict (.inl hv)
  rw [fragmentVerdict_of_fits s n h hf hn hfits] at hv
  split at hv
  next hpos => exact hpos
  next => split at hv <;> cases hv

/-- R42: a FRAGMENT held lies off the frontier and finds room. -/
theorem room_of_held {s : State} {n : SlotId} {h : Handle} (hv : fragmentVerdict s n = .held h) :
    s.position n ≠ (s.stream h).frontier ∧ (s.stream h).holdList.length ≠ (s.stream h).holdLimit := by
  obtain ⟨hf, hn, hfits⟩ := fits_of_verdict (.inr hv)
  rw [fragmentVerdict_of_fits s n h hf hn hfits] at hv
  split at hv
  · cases hv
  next hpos =>
    split at hv
    · cases hv
    next hroom => exact ⟨hpos, (not_or.1 hroom).1⟩

/-- R41: only a stream in OPEN takes a FRAGMENT of its own, since one in ENDING has nothing to come. -/
theorem opened_of_fits {s : State} {n : SlotId} {c : StreamContext} (hc : s.orderly c) (hlen : 1 ≤ s.fragmentLength n)
    (hfits : s.fragmentFits n c) : c.state = .opened := by
  obtain ⟨hstate, hfrontier, hwithin, -⟩ := hfits
  refine hstate.resolve_right fun hending => ?_
  have hend := hwithin _ (hc.2 hending).2
  unfold State.fragmentEnd at hend
  omega

/-- R35, R34: the declared end after a FRAGMENT bounds it, what is held, and is not moved. -/
theorem declaredEndAfter_bound {s : State} {n : SlotId} {c : StreamContext} (hc : holdOrdered s c)
    (hfits : s.fragmentFits n c) {e : Nat} (he : declaredEndAfter s n c = some e) :
    s.fragmentEnd n ≤ e ∧ ∀ m ∈ c.holdList, s.fragmentEnd m ≤ e := by
  obtain ⟨-, -, hwithin, hlast, -⟩ := hfits
  obtain ⟨-, hheld, -⟩ := hc
  unfold declaredEndAfter at he
  split at he
  next hnew =>
    obtain rfl := Option.some.inj he
    exact ⟨le_rfl, (hlast hnew.1).2 hnew.2⟩
  next => exact ⟨hwithin e he, fun m hm => (hheld m hm).2.2 e he⟩

/-- R39: what promotion leaves of a hold list in order: an end of it, above the frontier reached. -/
theorem promote_spec (s : State) (l : List SlotId) (start : Nat)
    (hpair : l.Pairwise fun m k => s.fragmentEnd m ≤ s.position k)
    (hl : ∀ m ∈ l, start ≤ s.position m ∧ 0 < s.fragmentLength m) :
    (promote s start l).2.1 <:+ l ∧ start ≤ (promote s start l).2.2 ∧
    (∀ m ∈ (promote s start l).2.1, (promote s start l).2.2 < s.position m) ∧
    ∀ bound, start ≤ bound → (∀ m ∈ l, s.fragmentEnd m ≤ bound) → (promote s start l).2.2 ≤ bound := by
  induction l generalizing start with
  | nil => simp [promote]
  | cons m rest ih =>
    obtain ⟨hm, hrest⟩ := List.pairwise_cons.1 hpair
    by_cases hstart : s.position m = start
    · have hend : s.fragmentEnd m = start + s.fragmentLength m := by rw [State.fragmentEnd, hstart]
      obtain ⟨hsuffix, hle, habove, hbound⟩ := ih (start + s.fragmentLength m) hrest
        fun k hk => ⟨hend ▸ hm k hk, (hl k (by simp [hk])).2⟩
      simp only [promote, hstart, if_true]
      refine ⟨hsuffix.trans (List.suffix_cons m rest), (Nat.le_add_right _ _).trans hle, habove,
        fun bound _ hall => hbound bound (hend ▸ hall m (by simp)) fun k hk => hall k (by simp [hk])⟩
    · simp only [promote, hstart, if_false]
      have hlt : start < s.position m := lt_of_le_of_ne (hl m (by simp)).1 (Ne.symm hstart)
      refine ⟨List.suffix_refl _, le_rfl, fun k hk => ?_, fun bound hle _ => hle⟩
      obtain rfl | hk := List.mem_cons.1 hk
      · exact hlt
      · have hmk := hm k hk
        unfold State.fragmentEnd at hmk
        omega

/-- R36, R45: a held fragment begins at or after the end of a FRAGMENT at the frontier. -/
theorem fragmentEnd_le_held {s : State} {n : SlotId} {c : StreamContext} (hc : holdOrdered s c)
    (hfits : s.fragmentFits n c) (hpos : s.position n = c.frontier) {m : SlotId} (hm : m ∈ c.holdList) :
    s.fragmentEnd n ≤ s.position m ∧ 0 < s.fragmentLength m := by
  obtain ⟨-, hheld, -⟩ := hc
  obtain ⟨-, -, -, -, hclear⟩ := hfits
  obtain ⟨habove, hlen, -⟩ := hheld m hm
  refine ⟨(hclear m hm).resolve_right fun hle => ?_, hlen⟩
  unfold State.fragmentEnd at hle
  omega

/-- R38 to R41: an acceptance leaves its context in order. -/
theorem orderly_accepting {s : State} {n : SlotId} {h : Handle} {promoted left : List SlotId} {reached : Nat}
    (hs : s.orderly (s.stream h)) (hlen : 1 ≤ s.fragmentLength n) (hfits : s.fragmentFits n (s.stream h))
    (hpos : s.position n = (s.stream h).frontier)
    (hp : promote s ((s.stream h).frontier + s.fragmentLength n) (s.stream h).holdList = (promoted, left, reached)) :
    s.orderly (s.accepting n h promoted left reached) := by
  have hopened := opened_of_fits hs hlen hfits
  have hordered := hs.1 (.inl hopened)
  obtain ⟨hpair, hheld, hlimit, -⟩ := id hordered
  have hstart : (s.stream h).frontier + s.fragmentLength n = s.fragmentEnd n := by rw [State.fragmentEnd, hpos]
  rw [hstart] at hp
  obtain ⟨hsuffix, -, habove, hbound⟩ := promote_spec s _ _ hpair fun m hm => fragmentEnd_le_held hordered hfits hpos hm
  simp only [hp] at hsuffix habove hbound
  have hend : ∀ e, declaredEndAfter s n (s.stream h) = some e →
      reached ≤ e ∧ ∀ m ∈ left, s.fragmentEnd m ≤ e := by
    intro e he
    obtain ⟨hn, hall⟩ := declaredEndAfter_bound hordered hfits he
    exact ⟨hbound e hn hall, fun m hm => hall m (hsuffix.mem hm)⟩
  by_cases hreached : declaredEndAfter s n (s.stream h) = some reached
  · refine orderly_of_ending (if_pos hreached) ?_ hreached
    refine List.eq_nil_iff_forall_not_mem.2 fun m hm => ?_
    have hlow := habove m hm
    have hhigh := (hend _ hreached).2 m hm
    unfold State.fragmentEnd at hhigh
    omega
  · refine ⟨fun _ => ⟨hpair.sublist hsuffix.sublist, fun m hm => ⟨habove m hm, ?_, fun e he => (hend e he).2 m hm⟩,
      hsuffix.length_le.trans hlimit, fun e he => ?_⟩, fun hst => ?_⟩
    · exact (hheld m (hsuffix.mem hm)).2.1
    · exact lt_of_le_of_ne (hend e he).1 fun heq : reached = e => hreached (he.trans (congrArg some heq.symm))
    · rw [State.accepting, if_neg hreached, hopened] at hst
      cases hst

/-! ### A FRAGMENT held -/

/-- R43, R45: a FRAGMENT clear of the held ranges enters a hold list in order. -/
theorem pairwise_insertHeld {s : State} {n : SlotId} {l : List SlotId} (hlen : 0 < s.fragmentLength n)
    (hpair : l.Pairwise fun m k => s.fragmentEnd m ≤ s.position k) (hpos : ∀ m ∈ l, 0 < s.fragmentLength m)
    (hclear : ∀ m ∈ l, s.fragmentEnd n ≤ s.position m ∨ s.fragmentEnd m ≤ s.position n) :
    (insertHeld s n l).Pairwise fun m k => s.fragmentEnd m ≤ s.position k := by
  induction l with
  | nil => simp [insertHeld]
  | cons m rest ih =>
    obtain ⟨hm, hrest⟩ := List.pairwise_cons.1 hpair
    have hclearm := hclear m (by simp)
    by_cases hlt : s.position n < s.position m
    · simp only [insertHeld, hlt, if_true]
      have hfirst : s.fragmentEnd n ≤ s.position m := hclearm.resolve_right fun hle => by
        unfold State.fragmentEnd at hle; omega
      refine List.pairwise_cons.2 ⟨fun k hk => ?_, hpair⟩
      obtain rfl | hk := List.mem_cons.1 hk
      · exact hfirst
      · have hmk := hm k hk
        unfold State.fragmentEnd at hmk hfirst ⊢
        omega
    · simp only [insertHeld, hlt, if_false]
      have hafter : s.fragmentEnd m ≤ s.position n := hclearm.resolve_left fun hle => by
        unfold State.fragmentEnd at hle; omega
      refine List.pairwise_cons.2 ⟨fun k hk => ?_, ih hrest (fun k hk => hpos k (by simp [hk]))
        fun k hk => hclear k (by simp [hk])⟩
      obtain rfl | hk := (mem_insertHeld s n k rest).1 hk
      · exact hafter
      · exact hm k hk

theorem length_insertHeld (s : State) (n : SlotId) (l : List SlotId) : (insertHeld s n l).length = l.length + 1 := by
  induction l with
  | nil => rfl
  | cons m rest ih => simp only [insertHeld]; split <;> simp [ih]

/-- R43, R44: what holding a FRAGMENT makes of the context. -/
def State.holding (s : State) (n : SlotId) (h : Handle) : StreamContext :=
  { s.stream h with
    holdList := insertHeld s n (s.stream h).holdList
    declaredEnd := declaredEndAfter s n (s.stream h)
    gapTimer := if (s.stream h).holdList = [] then loadedTimer (s.stream h).gapTimeout else (s.stream h).gapTimer }

/-- R43: a FRAGMENT held leaves its context in order. -/
theorem orderly_holding {s : State} {n : SlotId} {h : Handle} (hs : s.orderly (s.stream h))
    (hlen : 1 ≤ s.fragmentLength n) (hfits : s.fragmentFits n (s.stream h))
    (hpos : s.position n ≠ (s.stream h).frontier)
    (hroom : (s.stream h).holdList.length ≠ (s.stream h).holdLimit) : s.orderly (s.holding n h) := by
  have hopened := opened_of_fits hs hlen hfits
  have hordered := hs.1 (.inl hopened)
  obtain ⟨hpair, hheld, hlimit, -⟩ := id hordered
  obtain ⟨-, hfrontier, -, -, hclear⟩ := id hfits
  have hearly : (s.stream h).frontier < s.position n := lt_of_le_of_ne hfrontier (Ne.symm hpos)
  refine ⟨fun _ => ⟨?_, fun m hm => ?_, ?_, fun e he => ?_⟩, fun hst => ?_⟩
  · exact pairwise_insertHeld hlen hpair (fun m hm => (hheld m hm).2.1) hclear
  · obtain rfl | hm := (mem_insertHeld s n m _).1 hm
    · exact ⟨hearly, hlen, fun e he => (declaredEndAfter_bound hordered hfits he).1⟩
    · exact ⟨(hheld m hm).1, (hheld m hm).2.1, fun e he => (declaredEndAfter_bound hordered hfits he).2 m hm⟩
  · rw [State.holding, length_insertHeld]
    exact lt_of_le_of_ne hlimit hroom
  · have hend := (declaredEndAfter_bound hordered hfits he).1
    unfold State.fragmentEnd at hend
    change (s.stream h).frontier < e
    omega
  · change (s.stream h).state = _ at hst
    rw [hopened] at hst
    cases hst

/-! ### The takes -/

theorem keepsOrder_fragmentOutcome (n : SlotId) {s : State} (hs : ∀ k, s.orderly (s.stream k)) :
    keepsOrder s (fragmentOutcome n s) := by
  unfold fragmentOutcome
  split
  · exact keepsOrder_complete n _ none s
  · exact keepsOrder_complete n _ _ s
  next h hv =>
    obtain ⟨hf, -, hfits⟩ := fits_of_verdict (.inl hv)
    rw [acceptInOrder_eq rfl]
    exact .of_set rfl rfl (orderly_accepting (hs h) hf.1 hfits (position_of_inOrder hv) rfl)
  next h hv =>
    obtain ⟨hf, -, hfits⟩ := fits_of_verdict (.inr hv)
    obtain ⟨hpos, hroom⟩ := room_of_held hv
    exact .of_set (c := s.holding n h) rfl rfl (orderly_holding (hs h) hf.1 hfits hpos hroom)

/-- R26, R41: an OPEN makes a context in order. -/
theorem orderly_openedContext (s : State) (n : SlotId) (alg : Algorithm) (generation : BitVec 8) :
    s.orderly (openedContext s n alg generation) := by
  by_cases hend : (if s.endPresentFlag n then some (s.position n) else none) = some 0
  · exact orderly_of_ending (by simp only [openedContext, hend, if_true]) rfl hend
  · refine ⟨fun _ => ⟨.nil, fun m hm => (nomatch hm), Nat.zero_le _, fun e he => ?_⟩, fun hst => ?_⟩
    · exact Nat.pos_of_ne_zero fun h0 => hend (h0 ▸ he)
    · simp only [openedContext, hend, if_false] at hst
      cases hst

theorem keepsOrder_openOutcome (n : SlotId) (s : State) : keepsOrder s (openOutcome n s) := by
  unfold openOutcome
  split
  · exact keepsOrder_complete n _ none s
  next alg h _ _ _ =>
    have hc := orderly_openedContext s n alg ((s.stream h).generation + 1)
    simp only
    split
    · exact .of_set rfl rfl hc
    · rw [refuseNaming_eq]; exact .of_set rfl rfl hc
  · exact keepsOrder_complete n _ none s

theorem orderly_freeContext (s : State) (generation : BitVec 8) : s.orderly (freeContext generation) :=
  orderly_of_state (by simp [freeContext])

theorem keepsOrder_releaseStream (n : SlotId) (h : Handle) (s : State) : keepsOrder s (releaseStream n h s) := by
  by_cases hfinished : (s.stream h).state = .final ∨ (s.stream h).state = .faulted ∧ (s.stream h).inFlight = 0
  · rw [releaseStream_of_finished hfinished]
    exact .of_set rfl rfl (orderly_freeContext s _)
  obtain ⟨hfinal, hwaiting⟩ := not_or.1 hfinished
  by_cases hfaulted : (s.stream h).state = .faulted
  · rw [releaseStream_of_waiting hfaulted (Nat.pos_of_ne_zero fun h0 => hwaiting ⟨hfaulted, h0⟩)]
    refine .of_set (h := h) (c := { s.stream h with pendingControl := some n }) rfl rfl (orderly_of_state ?_)
    simp [hfaulted]
  · rw [releaseStream_of_other hfinal hfaulted]
    exact keepsOrder_complete n _ _ s

theorem keepsOrder_tearDownForAbort (n : SlotId) (h : Handle) (s : State) : keepsOrder s (tearDownForAbort n h s) := by
  cases ha : s.hasActive h with
  | false =>
    rw [tearDownForAbort_of_idle ha]
    exact .of_set rfl rfl (orderly_freeContext s _)
  | true =>
    rw [tearDownForAbort_of_active ha]
    refine .of_set (h := h) (c := s.aborted h n) ?_ ?_ (orderly_of_state (by simp [State.aborted]))
    · rw [afterEndings_words, cutActive_rss]; rfl
    · rw [afterEndings_ou, cutActive_ou]; rfl

theorem keepsOrder_abortOutcome (n : SlotId) (s : State) : keepsOrder s (abortOutcome n s) := by
  unfold abortOutcome
  split
  · exact keepsOrder_complete n _ none s
  · exact keepsOrder_complete n _ _ s
  · split
    · exact keepsOrder_tearDownForAbort n _ s
    · exact keepsOrder_tearDownForAbort n _ s
    · exact keepsOrder_releaseStream n _ s

theorem keepsOrder_releaseOutcome (n : SlotId) (s : State) : keepsOrder s (releaseOutcome n s) := by
  unfold releaseOutcome
  split
  · exact keepsOrder_complete n _ none s
  · exact keepsOrder_complete n _ _ s
  · exact keepsOrder_releaseStream n _ s

/-- R140: a stream that becomes EXPORTING keeps its hold list. -/
theorem orderly_exporting {s : State} {c : StreamContext} (hc : s.orderly c) (hst : c.state = .opened) :
    s.orderly { c with state := .exporting } :=
  ⟨fun _ => hc.1 (.inl hst), fun h => nomatch h⟩

theorem keepsOrder_exportOutcome (n : SlotId) {s : State} (hs : ∀ k, s.orderly (s.stream k)) :
    keepsOrder s (exportOutcome n s) := by
  unfold exportOutcome
  split
  · exact keepsOrder_complete n _ none s
  split
  · exact keepsOrder_complete n _ none s
  split
  · exact keepsOrder_complete n _ none s
  simp only
  split
  · exact keepsOrder_complete n _ _ s
  next hopened =>
  split
  · exact keepsOrder_complete n _ _ s
  · exact .of_set rfl rfl (orderly_exporting (hs _) (not_not.1 hopened))

theorem keepsOrder_importOutcome (n : SlotId) (s : State) : keepsOrder s (importOutcome n s) := by
  unfold importOutcome
  split
  · exact keepsOrder_complete n _ none s
  split
  · exact keepsOrder_complete n _ none s
  split
  · exact keepsOrder_complete n _ none s
  · exact .of_set rfl rfl (orderly_of_state (by simp))

/-- R90: a take keeps the contexts in order when its outcome does. -/
theorem orderly_dispatchTake {request : SlotId → State → State} {kind : Byte → Bool} {s t : State}
    (ht : dispatchTake kind request s = .next t)
    (hr : ∀ n {u : State}, (∀ k, u.orderly (u.stream k)) → keepsOrder u (request n u))
    (hs : ∀ k, s.orderly (s.stream k)) : ∀ k, t.orderly (t.stream k) := by
  unfold dispatchTake at ht
  split at ht
  · split at ht
    · exact Host.Outcome.next.inj ht ▸ hs
    next rest _ =>
      split at ht
      · have hs' : ∀ k, (s.taken rest).orderly ((s.taken rest).stream k) := fun k => orderly_congr rfl (hs k)
        exact Host.Outcome.next.inj ht ▸ (hr _ hs').orderly hs'
      · exact Host.Outcome.next.inj ht ▸ hs
  · exact Host.Outcome.next.inj ht ▸ hs

/-- Settles O32. -/
theorem takesKeepHoldListsOrdered : Obligations.TakesKeepHoldListsOrdered := by
  intro c s t hc hs ht
  rw [holdsOrdered_iff] at hs ⊢
  obtain ⟨hs, hcap⟩ := hs
  refine ⟨?_, ?_⟩
  · simp only [List.mem_cons, List.not_mem_nil, or_false] at hc
    obtain rfl | rfl | rfl | rfl | rfl | rfl | rfl := hc
    · exact orderly_dispatchTake (kind := (· == 1)) ht (fun n u _ => keepsOrder_openOutcome n u) hs
    · exact orderly_dispatchTake (kind := (· == 2)) ht (fun n _ => keepsOrder_fragmentOutcome n) hs
    · exact orderly_dispatchTake (kind := (· == 3)) ht (fun n u _ => keepsOrder_abortOutcome n u) hs
    · exact orderly_dispatchTake (kind := (· == 4)) ht (fun n u _ => keepsOrder_releaseOutcome n u) hs
    · exact orderly_dispatchTake (kind := (· == 5)) ht (fun n _ => keepsOrder_exportOutcome n) hs
    · exact orderly_dispatchTake (kind := (· == 6)) ht (fun n u _ => keepsOrder_importOutcome n u) hs
    · exact orderly_dispatchTake (kind := fun k => k == 0 || 6 < k.toNat)
        (request := fun n s => refuse n .badRequest s) ht
        (fun n u _ => keepsOrder_complete n _ none u) hs
  · obtain ⟨u, hu, hkept⟩ := exec_kept c s
    obtain rfl := Host.Outcome.next.inj (hu.symm.trans ht)
    exact hkept.held hcap

end Sys2Proof.Machine
end

section
/-! PROOF. The answers of the host bus (R109, R111 to R113, R119, R147): a RETRY that keeps the burst, a failure
recorded, an unwanted burst that ends, and the requester granted next. -/

namespace Sys2Proof.Machine

/-! ### What an answer does, by the burst it is given to -/

theorem exec_burstOk {s : State} {b : Burst} (hb : s.bma.burst = some b) (lanes : Vector Byte 64) :
    exec (.burstOk lanes) s = .next (answerOk b lanes s) := by
  change execBurstOk lanes s = _
  simp only [execBurstOk, hb]

theorem exec_burstRetry {s : State} {b : Burst} (hb : s.bma.burst = some b) :
    exec .burstRetry s = .next (answerRetry b s) := by
  change execBurstRetry s = _
  simp only [execBurstRetry, hb]

theorem exec_burstError {s : State} {b : Burst} (hb : s.bma.burst = some b) :
    exec .burstError s = .next (answerFailure b .busError s) := by
  change execBurstError s = _
  simp only [execBurstError, hb]

/-- R112: a RETRY that is the sixteenth of a burst still wanted is taken as RETRY_LIMIT. -/
theorem exec_retryLimit_taken {s : State} {b : Burst} (hb : s.bma.burst = some b) (hu : unwanted s b = false)
    (hcount : 16 ≤ s.retryCount b + 1) : exec .retryLimit s = .next (answerRetry b s) := by
  change execRetryLimit s = _
  simp only [execRetryLimit, hb]
  exact if_pos ⟨hu, hcount⟩

/-- R112: below the sixteenth there is no such happening. -/
theorem exec_retryLimit_of_lt {s : State} {b : Burst} (hb : s.bma.burst = some b) (hcount : s.retryCount b + 1 < 16) :
    exec .retryLimit s = .next s := by
  change execRetryLimit s = _
  simp only [execRetryLimit, hb]
  exact if_neg fun h => absurd h.2 (Nat.not_le.2 hcount)

theorem unwanted_fetch {s : State} {b : Burst} {item : ActiveItem} (hrun : s.ec.engine = .run)
    (hb : b.requester = .fetch) (ha : s.ap.active = some item) : unwanted s b = item.cut := by
  simp [unwanted, hrun, hb, ha]

theorem unwanted_ctu {s : State} {b : Burst} (hrun : s.ec.engine = .run) (hb : b.requester = .ctu) :
    unwanted s b = false := by
  simp [unwanted, hrun, hb]

theorem retryCount_fetch {s : State} {b : Burst} {item : ActiveItem} (hb : b.requester = .fetch)
    (ha : s.ap.active = some item) : s.retryCount b = item.retryCount := by
  simp [State.retryCount, hb, ha]

theorem retryCount_ctu {s : State} {b : Burst} {a : ActiveTransfer} (hb : b.requester = .ctu)
    (ha : s.ctu.active = some a) : s.retryCount b = a.retryCount := by
  simp [State.retryCount, hb, ha]

theorem countRetry_fetch {s : State} {b : Burst} {item : ActiveItem} (hb : b.requester = .fetch)
    (ha : s.ap.active = some item) :
    countRetry b s = { s with ap.active := some { item with retryCount := item.retryCount + 1 } } := by
  simp [countRetry, hb, ha]

theorem countRetry_ctu {s : State} {b : Burst} {a : ActiveTransfer} (hb : b.requester = .ctu)
    (ha : s.ctu.active = some a) :
    countRetry b s = { s with ctu.active := some { a with retryCount := a.retryCount + 1 } } := by
  simp [countRetry, hb, ha]

/-- R112: the state with the two retry counts changed. -/
def State.recounted (s : State) (fetchCount transferCount : Nat → Nat) : State :=
  { s with
    ap.active := s.ap.active.map fun item => { item with retryCount := fetchCount item.retryCount }
    ctu.active := s.ctu.active.map fun a => { a with retryCount := transferCount a.retryCount } }

theorem recounted_id (s : State) : s.recounted id id = s := by
  simp [State.recounted]

/-- R112: a RETRY changes no more than a retry count. -/
theorem countRetry_eq (b : Burst) (s : State) :
    ∃ fetchCount transferCount, countRetry b s = s.recounted fetchCount transferCount := by
  cases hb : b.requester with
  | fetch => exact ⟨(· + 1), id, by simp [countRetry, hb, State.recounted]⟩
  | ctu => exact ⟨id, (· + 1), by simp [countRetry, hb, State.recounted]⟩

theorem unwanted_recounted (s : State) (b : Burst) (f g : Nat → Nat) : unwanted (s.recounted f g) b = unwanted s b := by
  cases ha : s.ap.active <;> simp [unwanted, State.recounted, ha]

/-- R112: a RETRY does not make a burst unwanted. -/
@[simp] theorem unwanted_countRetry (s : State) (b : Burst) : unwanted (countRetry b s) b = unwanted s b := by
  obtain ⟨f, g, hcounted⟩ := countRetry_eq b s
  rw [hcounted, unwanted_recounted]

theorem retryCount_countRetry_fetch {s : State} {b : Burst} {item : ActiveItem} (hb : b.requester = .fetch)
    (ha : s.ap.active = some item) : (countRetry b s).retryCount b = item.retryCount + 1 := by
  simp [State.retryCount, countRetry, hb, ha]

theorem retryCount_countRetry_ctu {s : State} {b : Burst} {a : ActiveTransfer} (hb : b.requester = .ctu)
    (ha : s.ctu.active = some a) : (countRetry b s).retryCount b = a.retryCount + 1 := by
  simp [State.retryCount, countRetry, hb, ha]

theorem answerOk_fetch {s : State} {b : Burst} {item : ActiveItem} (hu : unwanted s b = false)
    (hb : b.requester = .fetch) (ha : s.ap.active = some item) (lanes : Vector Byte 64) :
    answerOk b lanes s = landFetch b item lanes s := by
  simp [answerOk, hu, hb, ha]

theorem answerOk_ctu {s : State} {b : Burst} {a : ActiveTransfer} (hu : unwanted s b = false)
    (hb : b.requester = .ctu) (ha : s.ctu.active = some a) (lanes : Vector Byte 64) :
    answerOk b lanes s = advanceTransfer a lanes s := by
  simp [answerOk, hu, hb, ha]

theorem answerFailure_fetch {s : State} {b : Burst} {item : ActiveItem} (hu : unwanted s b = false)
    (hb : b.requester = .fetch) (ha : s.ap.active = some item) (failure : BusFailure) :
    answerFailure b failure s = failFetch item failure s := by
  simp [answerFailure, hu, hb, ha]

theorem answerFailure_ctu {s : State} {b : Burst} {a : ActiveTransfer} (hu : unwanted s b = false)
    (hb : b.requester = .ctu) (ha : s.ctu.active = some a) (failure : BusFailure) :
    answerFailure b failure s = failTransfer a.transfer failure (endBurst s) := by
  simp [answerFailure, hu, hb, ha]

/-- R112: a RETRY below the sixteenth counts, and the burst stays. -/
theorem answerRetry_of_lt {s : State} {b : Burst} (hu : unwanted s b = false)
    (hcount : (countRetry b s).retryCount b < 16) : answerRetry b s = countRetry b s := by
  simp only [answerRetry, unwanted_countRetry, hu, Bool.false_eq_true, if_false]
  exact if_neg (Nat.not_le.2 hcount)

/-- R112: the sixteenth RETRY of a burst still wanted ends it as a failure. -/
theorem answerRetry_of_limit {s : State} {b : Burst} (hu : unwanted s b = false)
    (hcount : 16 ≤ (countRetry b s).retryCount b) :
    answerRetry b s = answerFailure b .retryLimit (countRetry b s) := by
  simp only [answerRetry, unwanted_countRetry, hu, Bool.false_eq_true, if_false]
  exact if_pos hcount

theorem answerRetry_of_unwanted {s : State} {b : Burst} (hu : unwanted s b = true) :
    answerRetry b s = endUnwanted b (countRetry b s) := by
  simp only [answerRetry, unwanted_countRetry, hu, if_true]

/-! ### The RETRY that keeps the burst -/

/-- Settles O40. -/
theorem retryKeepsTheBurst : Obligations.RetryKeepsTheBurst := by
  intro s b hrun hburst
  refine ⟨fun item hb ha hcut hcount => ?_, fun a hb ha hcount => ?_⟩
  · refine ⟨?_, exec_retryLimit_of_lt hburst (by rwa [retryCount_fetch hb ha])⟩
    rw [exec_burstRetry hburst, answerRetry_of_lt ((unwanted_fetch hrun hb ha).trans hcut)
      (by rwa [retryCount_countRetry_fetch hb ha]), countRetry_fetch hb ha]
  · refine ⟨?_, exec_retryLimit_of_lt hburst (by rwa [retryCount_ctu hb ha])⟩
    rw [exec_burstRetry hburst, answerRetry_of_lt (unwanted_ctu hrun hb)
      (by rwa [retryCount_countRetry_ctu hb ha]), countRetry_ctu hb ha]

/-! ### The failure of a burst (R113) -/

/-- R113: a FILLING or FULL buffer is emptied. -/
theorem discardIf_filling_full (b : Buffer) :
    (b.discardIf .filling).discardIf .full =
      if b.state = .filling ∨ b.state = .full then Buffer.cleared else b := by
  by_cases hf : b.state = .filling
  · simp [Buffer.discardIf, hf, Buffer.cleared]
  · simp [Buffer.discardIf, hf]

/-- R113: the failure recorded, and the bus freed. -/
theorem failFetch_eq {s : State} (hrun : s.ec.engine = .run) (item : ActiveItem) (failure : BusFailure) :
    failFetch item failure s = State.busFreed { s with
      ap := { s.ap with
        bufferA := if s.ap.bufferA.state = .filling ∨ s.ap.bufferA.state = .full then Buffer.cleared
                   else s.ap.bufferA
        bufferB := if s.ap.bufferB.state = .filling ∨ s.ap.bufferB.state = .full then Buffer.cleared
                   else s.ap.bufferB
        active := some { item with failure := some failure } } } := by
  rw [← discardIf_filling_full, ← discardIf_filling_full]
  exact endBurst_eq _ hrun

/-- R112: a sixteenth RETRY of a burst still wanted, under either command, fails the burst. -/
theorem exec_retry_limit {cmd : Instr} {s : State} {b : Burst} (hcmd : cmd = .retryLimit ∨ cmd = .burstRetry)
    (hb : s.bma.burst = some b) (hu : unwanted s b = false) (hcount : s.retryCount b = 15)
    (hcount' : (countRetry b s).retryCount b = 16) :
    exec cmd s = .next (answerFailure b .retryLimit (countRetry b s)) := by
  rw [← answerRetry_of_limit hu (Nat.le_of_eq hcount'.symm)]
  obtain rfl | rfl := hcmd
  · exact exec_retryLimit_taken hb hu (Nat.le_of_eq (by rw [hcount]))
  · exact exec_burstRetry hb

/-- R112: the sixteenth RETRY of a fetch burst of an item not cut. -/
theorem exec_retry_limit_fetch {cmd : Instr} {s : State} {b : Burst} {item : ActiveItem} (hrun : s.ec.engine = .run)
    (hcmd : cmd = .retryLimit ∨ cmd = .burstRetry) (hburst : s.bma.burst = some b) (hb : b.requester = .fetch)
    (ha : s.ap.active = some item) (hcut : item.cut = false) (hcount : item.retryCount = 15) :
    exec cmd s = .next (failFetch { item with retryCount := 16 } .retryLimit
      { s with ap.active := some { item with retryCount := 16 } }) := by
  have hu : unwanted s b = false := (unwanted_fetch hrun hb ha).trans hcut
  have hcounted : countRetry b s = { s with ap.active := some { item with retryCount := 16 } } := by
    rw [countRetry_fetch hb ha, hcount]
  rw [exec_retry_limit hcmd hburst hu ((retryCount_fetch hb ha).trans hcount)
      (by rw [retryCount_countRetry_fetch hb ha, hcount]),
    answerFailure_fetch (by rw [unwanted_countRetry, hu]) hb (by rw [hcounted]), hcounted]

/-- R112: the sixteenth RETRY of a CTU burst. -/
theorem exec_retry_limit_ctu {cmd : Instr} {s : State} {b : Burst} {a : ActiveTransfer} (hrun : s.ec.engine = .run)
    (hcmd : cmd = .retryLimit ∨ cmd = .burstRetry) (hburst : s.bma.burst = some b) (hb : b.requester = .ctu)
    (ha : s.ctu.active = some a) (hcount : a.retryCount = 15) :
    exec cmd s = .next (failTransfer a.transfer .retryLimit
      (endBurst { s with ctu.active := some { a with retryCount := 16 } })) := by
  have hu : unwanted s b = false := unwanted_ctu hrun hb
  have hcounted : countRetry b s = { s with ctu.active := some { a with retryCount := 16 } } := by
    rw [countRetry_ctu hb ha, hcount]
  rw [exec_retry_limit hcmd hburst hu ((retryCount_ctu hb ha).trans hcount)
      (by rw [retryCount_countRetry_ctu hb ha, hcount]),
    answerFailure_ctu (a := { a with retryCount := 16 }) (by rw [unwanted_countRetry, hu]) hb (by rw [hcounted]),
    hcounted]

/-- Settles O41. -/
theorem fetchFailureIsRecorded : Obligations.FetchFailureIsRecorded := by
  rintro cmd failure s b item hrun hburst hb ha hcut (⟨rfl, rfl⟩ | ⟨hcmd, rfl, hcount⟩)
  · have hu := (unwanted_fetch hrun hb ha).trans hcut
    exact ⟨item.retryCount, by rw [exec_burstError hburst, answerFailure_fetch hu hb ha, failFetch_eq hrun]⟩
  · exact ⟨16, (exec_retry_limit_fetch hrun hcmd hburst hb ha hcut hcount).trans
      (congrArg Host.Outcome.next (failFetch_eq hrun _ _))⟩

/-! ### The end of an unwanted burst (R116, R119) -/

/-- R116: the FILLING buffer of the fetch burst `b` is EMPTY. -/
def State.filledDiscarded (s : State) (b : Burst) : State :=
  { s with
    ap := { s.ap with
      bufferA := if b.requester = .fetch ∧ s.ap.bufferA.state = .filling then Buffer.cleared else s.ap.bufferA
      bufferB := if b.requester = .fetch ∧ s.ap.bufferB.state = .filling then Buffer.cleared else s.ap.bufferB } }

theorem endUnwanted_eq (b : Burst) (s : State) : endUnwanted b s = endBurst (s.filledDiscarded b) := by
  cases hb : b.requester with
  | fetch => simp [endUnwanted, hb, State.filledDiscarded, AbsorbPath.discard, Buffer.discardIf]
  | ctu => simp [endUnwanted, hb, State.filledDiscarded]

/-- R109, R119: the end of a burst, in RUN and outside it. -/
theorem endBurst_by_engine (s : State) :
    endBurst s = if s.ec.engine = .run then s.busFreed else { s with bma.burst := none } := by
  split
  next hrun => exact endBurst_eq s hrun
  next hrun => exact endBurst_of_not_running hrun

/-- R112, R116, R119: each of the three answers ends an unwanted burst. -/
theorem exec_answer_of_unwanted {cmd : Instr} {s : State} {b : Burst} (hb : s.bma.burst = some b)
    (hcmd : (∃ lanes, cmd = .burstOk lanes) ∨ cmd = .burstRetry ∨ cmd = .burstError) (hu : unwanted s b = true) :
    ∃ f g, exec cmd s = .next (endUnwanted b (s.recounted f g)) := by
  obtain ⟨lanes, rfl⟩ | rfl | rfl := hcmd
  · exact ⟨id, id, by rw [exec_burstOk hb, answerOk, if_pos hu, recounted_id]⟩
  · obtain ⟨f, g, hcounted⟩ := countRetry_eq b s
    exact ⟨f, g, by rw [exec_burstRetry hb, answerRetry_of_unwanted hu, hcounted]⟩
  · exact ⟨id, id, by rw [exec_burstError hb, answerFailure, if_pos hu, recounted_id]⟩

/-- Settles O42. -/
theorem unwantedBurstEndsAtItsAnswer : Obligations.UnwantedBurstEndsAtItsAnswer := by
  intro cmd s b hburst hcmd hstate
  have hu : unwanted s b = true := by
    obtain hclearing | ⟨hrun, hb, item, ha, hcut⟩ := hstate
    · exact unwanted_of_clearing hclearing b
    · exact (unwanted_fetch hrun hb ha).trans hcut
  obtain ⟨f, g, hexec⟩ := exec_answer_of_unwanted hburst hcmd hu
  refine ⟨f, g, ?_⟩
  rw [hexec, endUnwanted_eq, endBurst_by_engine]
  rfl

/-! ### The grant to the requester that waits (R109) -/

/-- R109: the CTU's request, waiting alone, is granted as a burst ends. -/
theorem endBurst_of_ctuWaiting {s : State} {a : ActiveTransfer} (hrun : s.ec.engine = .run)
    (hc : s.bma.ctuWaiting = true) (hf : s.bma.fetchWaiting = false) (ha : s.ctu.active = some a) :
    endBurst s = s.ctuGranted a := by
  rw [endBurst_eq s hrun, State.busFreed]
  simp [hc, hf, ha]

/-- R109: the Fetch Engine's request, waiting alone, is granted as a burst ends. -/
theorem endBurst_of_fetchWaiting {s : State} {item : ActiveItem} (hrun : s.ec.engine = .run)
    (hf : s.bma.fetchWaiting = true) (hc : s.bma.ctuWaiting = false) (ha : s.ap.active = some item) :
    endBurst s = s.fetchGranted item := by
  rw [endBurst_eq s hrun, State.busFreed]
  simp [hc, hf, ha]

/-- R109: with no request waiting the bus master is idle once a burst ends. -/
theorem endBurst_of_none {s : State} (hf : s.bma.fetchWaiting = false) (hc : s.bma.ctuWaiting = false) :
    endBurst s = { s with bma.burst := none } := arbitrate_quiet hf hc

/-- R103, R109: with a burst on the bus, the examination of the Absorb Path can do no more at the arbiter than leave the
Fetch Engine's request waiting. -/
theorem examineAbsorbPath_busy {s : State} (hb : s.bma.burst ≠ none) :
    ∃ waiting, examineAbsorbPath s = { beginDrain s with bma.fetchWaiting := waiting } := by
  unfold examineAbsorbPath
  obtain h | h := requestFetch_cases (beginDrain s)
  · exact ⟨(beginDrain s).bma.fetchWaiting, h⟩
  · exact ⟨true, by rw [h, arbitrate_busy (by simpa using hb)]⟩

/-- R109: what the grant of the CTU's transfer `a` leaves at the arbiter and the CTU. -/
def ctuOnBus (s : State) (a : ActiveTransfer) (t : State) : Prop :=
  t.bma.burst = some (transferBurst s a) ∧ t.bma.lastGranted = .ctu ∧ t.bma.ctuWaiting = false ∧
    t.ctu.active = some { a with retryCount := 0 }

/-- What a burst of the CTU is made of. -/
theorem transferBurst_congr {s t : State} (hw : t.rss.words = s.rss.words) (hr : t.ctu.record = s.ctu.record)
    (a : ActiveTransfer) : transferBurst t a = transferBurst s a := by
  simp only [transferBurst, State.hostAddress, slotWord_congr hw, hr]

theorem ctuOnBus_endBurst {s u : State} {a : ActiveTransfer} (hrun : u.ec.engine = .run)
    (hbma : u.bma = s.bma) (hctu : u.ctu = s.ctu) (hw : u.rss.words = s.rss.words) (hc : s.bma.ctuWaiting = true)
    (hf : s.bma.fetchWaiting = false) (ha : s.ctu.active = some a) : ctuOnBus s a (endBurst u) := by
  rw [endBurst_of_ctuWaiting hrun (by rw [hbma, hc]) (by rw [hbma, hf]) (by rw [hctu, ha])]
  exact ⟨congrArg some (transferBurst_congr hw (by rw [hctu]) a), rfl, rfl, rfl⟩

theorem ctuOnBus_landFetch {s : State} {a : ActiveTransfer} (hrun : s.ec.engine = .run) (b : Burst) (item : ActiveItem)
    (lanes : Vector Byte 64) (hc : s.bma.ctuWaiting = true) (hf : s.bma.fetchWaiting = false)
    (ha : s.ctu.active = some a) : ctuOnBus s a (landFetch b item lanes s) := by
  unfold landFetch
  simp only
  set u : State := { s with ap := _ } with hu
  have hended : ctuOnBus s a (endBurst u) := ctuOnBus_endBurst hrun rfl rfl rfl hc hf ha
  obtain ⟨hburst, hlast, hwait, hactive⟩ := hended
  obtain ⟨waiting, hexamined⟩ := examineAbsorbPath_busy (s := endBurst u) (by rw [hburst]; simp)
  rw [hexamined]
  refine ⟨?_, ?_, ?_, ?_⟩ <;> simpa

/-- R109: in RUN every answer that ends the Fetch Engine's burst grants the CTU's request that waits alone. -/
theorem ctuOnBus_answer {cmd : Instr} {s : State} {b : Burst} {a : ActiveTransfer} (hrun : s.ec.engine = .run)
    (hburst : s.bma.burst = some b) (hb : b.requester = .fetch)
    (hcmd : (∃ lanes, cmd = .burstOk lanes) ∨ cmd = .burstError ∨
      cmd = .burstRetry ∧ (∃ item, s.ap.active = some item ∧ (item.cut = true ∨ item.retryCount = 15)) ∨
      cmd = .retryLimit ∧ ∃ item, s.ap.active = some item ∧ item.cut = false ∧ item.retryCount = 15)
    (hc : s.bma.ctuWaiting = true) (hf : s.bma.fetchWaiting = false) (ha : s.ctu.active = some a) :
    ∃ t, exec cmd s = .next t ∧ ctuOnBus s a t := by
  have hended : ∀ u : State, u.ec = s.ec → u.bma = s.bma → u.ctu = s.ctu → u.rss = s.rss → ctuOnBus s a (endBurst u) :=
    fun u hec hbma hctu hrss => ctuOnBus_endBurst (by rw [hec, hrun]) hbma hctu (by rw [hrss]) hc hf ha
  have hunwanted : ∀ u : State, u.ec = s.ec → u.bma = s.bma → u.ctu = s.ctu → u.rss = s.rss →
      ctuOnBus s a (endUnwanted b u) :=
    fun u hec hbma hctu hrss => by rw [endUnwanted_eq]; exact hended _ hec hbma hctu hrss
  have hfailed : ∀ (u : State) (item : ActiveItem) (failure : BusFailure), u.ec = s.ec → u.bma = s.bma →
      u.ctu = s.ctu → u.rss = s.rss → ctuOnBus s a (failFetch item failure u) :=
    fun u item failure hec hbma hctu hrss => hended _ hec hbma hctu hrss
  have hlimit : ∀ {cmd item}, cmd = .retryLimit ∨ cmd = .burstRetry → s.ap.active = some item → item.cut = false →
      item.retryCount = 15 → ∃ t, exec cmd s = .next t ∧ ctuOnBus s a t :=
    fun hcmd hi hcut hcount => ⟨_, exec_retry_limit_fetch hrun hcmd hburst hb hi hcut hcount,
      hfailed _ _ _ rfl rfl rfl rfl⟩
  obtain ⟨lanes, rfl⟩ | rfl | ⟨rfl, item, hi, hitem⟩ | ⟨rfl, item, hi, hcut, hcount⟩ := hcmd
  · refine ⟨_, exec_burstOk hburst lanes, ?_⟩
    cases hu : unwanted s b with
    | true => rw [answerOk, if_pos hu]; exact hunwanted s rfl rfl rfl rfl
    | false =>
      cases hi : s.ap.active with
      | none => simp only [answerOk, hu, hb, hi]; exact hended s rfl rfl rfl rfl
      | some item => rw [answerOk_fetch hu hb hi]; exact ctuOnBus_landFetch hrun b item lanes hc hf ha
  · refine ⟨_, exec_burstError hburst, ?_⟩
    cases hu : unwanted s b with
    | true => rw [answerFailure, if_pos hu]; exact hunwanted s rfl rfl rfl rfl
    | false =>
      cases hi : s.ap.active with
      | none => simp only [answerFailure, hu, hb, hi]; exact hended s rfl rfl rfl rfl
      | some item => rw [answerFailure_fetch hu hb hi]; exact hfailed s item _ rfl rfl rfl rfl
  · cases hcut : item.cut with
    | true =>
      have hcounted := countRetry_fetch hb hi
      refine ⟨_, exec_burstRetry hburst, ?_⟩
      rw [answerRetry_of_unwanted ((unwanted_fetch hrun hb hi).trans hcut), hcounted]
      exact hunwanted _ rfl rfl rfl rfl
    | false => exact hlimit (.inr rfl) hi hcut (hitem.resolve_left (by simp [hcut]))
  · exact hlimit (.inl rfl) hi hcut hcount

/-- R109: what the grant of the Fetch Engine's request for `item` leaves at the arbiter and the Absorb Path. -/
def fetchOnBus (s : State) (item : ActiveItem) (t : State) : Prop :=
  t.bma.burst = (s.fetchGranted item).bma.burst ∧ t.bma.lastGranted = .fetch ∧ t.bma.fetchWaiting = false ∧
    t.ap = { (s.fetchGranted item).ap with readyQueue := t.ap.readyQueue }

theorem fetchOnBus_endBurst {s u : State} {item : ActiveItem} (hrun : u.ec.engine = .run)
    (hbma : u.bma = s.bma) (hap : u.ap = s.ap) (hf : s.bma.fetchWaiting = true) (hc : s.bma.ctuWaiting = false)
    (ha : s.ap.active = some item) : fetchOnBus s item (endBurst u) := by
  rw [endBurst_of_fetchWaiting hrun (by rw [hbma, hf]) (by rw [hbma, hc]) (by rw [hap, ha])]
  refine ⟨rfl, rfl, rfl, ?_⟩
  simp only [State.fetchGranted, hap]

/-- The end of a transfer touches neither the bus master nor the staging buffers. -/
theorem fetchOnBus.of_frame {s t u : State} {item : ActiveItem} (h : fetchOnBus s item t) (hbma : u.bma = t.bma)
    (hap : u.ap = { t.ap with readyQueue := u.ap.readyQueue }) : fetchOnBus s item u := by
  obtain ⟨hburst, hlast, hwait, hpath⟩ := h
  refine ⟨hbma ▸ hburst, hbma ▸ hlast, hbma ▸ hwait, ?_⟩
  rw [hap, hpath]

theorem fetchOnBus_finishExport {s t : State} {item : ActiveItem} (tr : Transfer) (h : fetchOnBus s item t) :
    fetchOnBus s item (finishExport tr t) := by
  rw [finishExport, complete_eq]; exact h.of_frame rfl rfl

theorem fetchOnBus_failImport {s t : State} {item : ActiveItem} (tr : Transfer) (status : Status)
    (h : fetchOnBus s item t) : fetchOnBus s item (failImport tr status t) := by
  rw [failImport, complete_eq]; exact h.of_frame rfl rfl

theorem fetchOnBus_finishImport {s t : State} {item : ActiveItem} (tr : Transfer) (h : fetchOnBus s item t) :
    fetchOnBus s item (finishImport tr t) := by
  unfold finishImport
  split
  · simp only
    split
    · exact h.of_frame rfl rfl
    · rw [complete_eq]; exact h.of_frame rfl rfl
  · exact fetchOnBus_failImport tr _ h

theorem fetchOnBus_failTransfer {s t : State} {item : ActiveItem} (tr : Transfer) (failure : BusFailure)
    (h : fetchOnBus s item t) : fetchOnBus s item (failTransfer tr failure t) := by
  unfold failTransfer
  split
  · rw [complete_eq]; exact h.of_frame rfl rfl
  · exact fetchOnBus_failImport tr _ h

/-- R146: with a burst on the bus, the CTU's request waits. -/
theorem requestCtu_busy {s : State} (hb : s.bma.burst ≠ none) :
    requestCtu s = { s with bma.ctuWaiting := true } := arbitrate_busy hb

theorem landTransfer_frame (a : ActiveTransfer) (lanes : Vector Byte 64) (s : State) :
    landTransfer a lanes s = { s with ctu.record := (landTransfer a lanes s).ctu.record } := by
  unfold landTransfer; split <;> rfl

theorem fetchOnBus_advanceTransfer {s : State} {item : ActiveItem} (hrun : s.ec.engine = .run) (a : ActiveTransfer)
    (lanes : Vector Byte 64) (hf : s.bma.fetchWaiting = true) (hc : s.bma.ctuWaiting = false)
    (ha : s.ap.active = some item) : fetchOnBus s item (advanceTransfer a lanes s) := by
  have hland := landTransfer_frame a lanes s
  rw [advanceTransfer_eq]
  split
  · set u : State := { landTransfer a lanes s with ctu.active := _ } with hu
    have hended : fetchOnBus s item (endBurst u) :=
      fetchOnBus_endBurst (by rw [hu, hland]; exact hrun) (by rw [hu, hland]) (by rw [hu, hland]) hf hc ha
    rw [requestCtu_busy (by rw [hended.1]; simp [State.fetchGranted])]
    obtain ⟨hburst, hlast, hwait, hpath⟩ := hended
    exact ⟨hburst, hlast, hwait, hpath⟩
  · have hended : fetchOnBus s item (endBurst (landTransfer a lanes s)) :=
      fetchOnBus_endBurst (by rw [hland]; exact hrun) (by rw [hland]) (by rw [hland]) hf hc ha
    split
    · exact fetchOnBus_finishExport _ hended
    · exact fetchOnBus_finishImport _ hended

/-- R109: in RUN every answer that ends the CTU's burst grants the Fetch Engine's request that waits alone. -/
theorem fetchOnBus_answer {cmd : Instr} {s : State} {b : Burst} {item : ActiveItem} (hrun : s.ec.engine = .run)
    (hburst : s.bma.burst = some b) (hb : b.requester = .ctu)
    (hcmd : (∃ lanes, cmd = .burstOk lanes) ∨ cmd = .burstError ∨
      (cmd = .burstRetry ∨ cmd = .retryLimit) ∧ ∃ a, s.ctu.active = some a ∧ a.retryCount = 15)
    (hf : s.bma.fetchWaiting = true) (hc : s.bma.ctuWaiting = false) (ha : s.ap.active = some item) :
    ∃ t, exec cmd s = .next t ∧ fetchOnBus s item t := by
  have hu := unwanted_ctu hrun hb
  have hended : fetchOnBus s item (endBurst s) := fetchOnBus_endBurst hrun rfl rfl hf hc ha
  obtain ⟨lanes, rfl⟩ | rfl | ⟨hretry, a, hactive, hcount⟩ := hcmd
  · refine ⟨_, exec_burstOk hburst lanes, ?_⟩
    cases hactive : s.ctu.active with
    | none => simp only [answerOk, hu, hb, hactive]; exact hended
    | some a => rw [answerOk_ctu hu hb hactive]; exact fetchOnBus_advanceTransfer hrun a lanes hf hc ha
  · refine ⟨_, exec_burstError hburst, ?_⟩
    cases hactive : s.ctu.active with
    | none => simp only [answerFailure, hu, hb, hactive]; exact hended
    | some a => rw [answerFailure_ctu hu hb hactive]; exact fetchOnBus_failTransfer _ _ hended
  · refine ⟨_, exec_retry_limit_ctu hrun hretry.symm hburst hb hactive hcount, ?_⟩
    exact fetchOnBus_failTransfer _ _ (fetchOnBus_endBurst hrun rfl rfl hf hc ha)

/-- Settles O43. -/
theorem waitingRequesterIsGrantedNext : Obligations.WaitingRequesterIsGrantedNext := by
  intro cmd s b hrun hburst hcmd
  refine ⟨fun a hb hc hf ha => ctuOnBus_answer hrun hburst hb ?_ hc hf ha, fun item hb hf hc ha => ?_⟩
  · obtain hok | herror | ⟨hretry, -, hitem⟩ | ⟨hlimit, -, hitem⟩ | ⟨-, hctu, -⟩ := hcmd
    · exact .inl hok
    · exact .inr (.inl herror)
    · exact .inr (.inr (.inl ⟨hretry, hitem⟩))
    · exact .inr (.inr (.inr ⟨hlimit, hitem⟩))
    · rw [hb] at hctu; cases hctu
  · refine fetchOnBus_answer hrun hburst hb ?_ hf hc ha
    obtain hok | herror | ⟨-, hfetch, -⟩ | ⟨-, hfetch, -⟩ | ⟨hretry, -, htransfer⟩ := hcmd
    · exact .inl hok
    · exact .inr (.inl herror)
    · rw [hb] at hfetch; cases hfetch
    · rw [hb] at hfetch; cases hfetch
    · exact .inr (.inr ⟨hretry, htransfer⟩)

end Sys2Proof.Machine
end

section
/-! PROOF. The Absorb Path at work: the take of an item (R101), a burst that fills its buffer (R111), and the end of a
drain (R106, R127), with the next request and drain that each of them brings. -/

namespace Sys2Proof.Machine

/-! ### The request of the Fetch Engine, by what it comes to (R103, R109) -/

/-- R109: a request made while a burst is on the bus waits. -/
theorem requestFetch_waits {s : State} {item : ActiveItem} (ha : s.ap.active = some item) (hw : wantsBurst s item)
    (hb : s.bma.burst ≠ none) : requestFetch s = { s with bma.fetchWaiting := true } :=
  (requestFetch_wanted ha hw).trans (arbitrate_busy hb)

/-- R109: a request made at the idle bus master, with the CTU not waiting, is granted. -/
theorem requestFetch_granted {s : State} {item : ActiveItem} (ha : s.ap.active = some item) (hw : wantsBurst s item)
    (hb : s.bma.burst = none) (hc : s.bma.ctuWaiting = false) : requestFetch s = s.fetchGranted item :=
  by
  obtain ⟨-, -, -, -, -, -, hrun⟩ := id hw
  exact (requestFetch_wanted ha hw).trans
    (arbitrate_fetch (s := { s with bma.fetchWaiting := true }) hrun hb rfl hc ha)

/-- R103: the conditions of the request are the same before and after a drain begins. -/
theorem wantsBurst_beginDrain (s : State) (item : ActiveItem) : wantsBurst (beginDrain s) item ↔ wantsBurst s item := by
  simp only [wantsBurst, AbsorbPath.someEmpty_iff _ .a, beginDrain_buffer_empty, beginDrain_bma, State.running,
    beginDrain_ec]

theorem examineAbsorbPath_unwanted {s : State} {item : ActiveItem} (ha : s.ap.active = some item)
    (hw : ¬ wantsBurst s item) : examineAbsorbPath s = beginDrain s :=
  requestFetch_unwanted (by rw [beginDrain_active, ha]) (mt (wantsBurst_beginDrain s item).1 hw)

theorem examineAbsorbPath_waits {s : State} {item : ActiveItem} (ha : s.ap.active = some item) (hw : wantsBurst s item)
    (hb : s.bma.burst ≠ none) : examineAbsorbPath s = { beginDrain s with bma.fetchWaiting := true } :=
  requestFetch_waits (by rw [beginDrain_active, ha]) ((wantsBurst_beginDrain s item).2 hw) (by rwa [beginDrain_bma])

theorem examineAbsorbPath_granted {s : State} {item : ActiveItem} (ha : s.ap.active = some item)
    (hw : wantsBurst s item) (hb : s.bma.burst = none) (hc : s.bma.ctuWaiting = false) :
    examineAbsorbPath s = (beginDrain s).fetchGranted item :=
  requestFetch_granted (by rw [beginDrain_active, ha]) ((wantsBurst_beginDrain s item).2 hw) (by rwa [beginDrain_bma])
    (by rwa [beginDrain_bma])

/-! ### The take of an item -/

theorem exec_itemTake {s : State} {item : ReadyItem} {rest : List ReadyItem} (hrun : s.ec.engine = .run)
    (ha : s.ap.active = none) (hq : s.ap.readyQueue = item :: rest) :
    exec .itemTake s = .next (takeItem item rest s) := by
  change execItemTake s = _
  simp only [execItemTake, hrun, ha, hq]

/-- R52: outside RUN, with an active item or with nothing ready, no item is taken. -/
theorem exec_itemTake_of_none {s : State} (h : s.ec.engine ≠ .run ∨ s.ap.active ≠ none ∨ s.ap.readyQueue = []) :
    exec .itemTake s = .next s := by
  change execItemTake s = _
  unfold execItemTake
  split
  next hrun ha hq => simp_all
  next => rfl

/-- R101: the item taken, before its request is examined. -/
def State.itemTaken (s : State) (item : ReadyItem) (rest : List ReadyItem) (mode : DigestMode) : State :=
  { s.setSlot item.slot .active with
    ap := { s.ap with readyQueue := rest, active := some (activeItemOf s item), nextFill := .a, nextDrain := .a }
    dc := { mode := mode, algorithm := (s.stream item.stream).algorithm, residue := (s.stream item.stream).residue,
            chaining := (s.stream item.stream).chaining } }

theorem takeItem_fragment {item : ReadyItem} (hk : item.kind = .fragment) (rest : List ReadyItem) (s : State) :
    takeItem item rest s = requestFetch (s.itemTaken item rest .idle) := by
  simp only [takeItem, hk]; rfl

/-- R129: a finalize-only item has nothing to fetch. -/
theorem takeItem_finalizeOnly {item : ReadyItem} (hk : item.kind = .finalizeOnly) (rest : List ReadyItem) (s : State) :
    takeItem item rest s = s.itemTaken item rest .finalizing := by
  have hnone : (activeItemOf s item).toFetch = 0 := by simp only [activeItemOf, hk]
  have hsame : takeItem item rest s = requestFetch (s.itemTaken item rest .finalizing) := by
    simp only [takeItem, hk]; rfl
  exact hsame.trans (requestFetch_unwanted rfl fun hw => absurd hw.1 (by rw [hnone]; exact Nat.lt_irrefl 0))

/-- R103: a FRAGMENT with both buffers EMPTY wants its first burst, unless a fetch burst is on the bus. -/
theorem wantsBurst_itemTaken {s : State} {item : ReadyItem} (hk : item.kind = .fragment) (hrun : s.ec.engine = .run)
    (hlen : 0 < s.fragmentLength item.slot) (hA : s.ap.bufferA.state = .empty) (hf : s.bma.fetchWaiting = false)
    (hb : s.bma.burst.all (·.requester != .fetch)) (rest : List ReadyItem) :
    wantsBurst (s.itemTaken item rest .idle) (activeItemOf s item) :=
  ⟨by simpa only [activeItemOf, hk], rfl, rfl, hb, hf, .inl hA, hrun⟩

/-- Settles O38. -/
theorem itemTakeSetsUpActiveItem : Obligations.ItemTakeSetsUpActiveItem := by
  intro s
  refine ⟨exec_itemTake_of_none, fun n h kind rest hrun ha hq => ⟨?_, ?_⟩⟩
  · rintro rfl
    rw [exec_itemTake hrun ha hq, takeItem_finalizeOnly rfl]
    rfl
  · rintro rfl hlen hA - hf
    rw [exec_itemTake hrun ha hq, takeItem_fragment rfl]
    refine ⟨fun hb hc => ?_, fun b hb hctu => ?_⟩
    · have hw := wantsBurst_itemTaken (item := ⟨n, h, .fragment⟩) rfl hrun hlen hA hf (by simp [hb]) rest
      refine congrArg Host.Outcome.next ((requestFetch_granted rfl hw hb hc).trans ?_)
      simp only [hf]
      rfl
    · have hw := wantsBurst_itemTaken (item := ⟨n, h, .fragment⟩) rfl hrun hlen hA hf (by simp [hb, hctu]) rest
      exact congrArg Host.Outcome.next (requestFetch_waits rfl hw (by simp [State.itemTaken, hb]))

/-! ### What grants and requests leave of the Absorb Path -/

theorem arbitrate_frame (s : State) : arbitrate s =
    { s with ap := (arbitrate s).ap, bma := (arbitrate s).bma, ctu.active := (arbitrate s).ctu.active } := by
  obtain h | ⟨item, -, -, -, -, h⟩ | ⟨a, -, -, -, -, h⟩ := arbitrate_cases s <;> rw [h] <;> rfl

/-- R112: an item whose retry count is 0 is left as it is by a grant. -/
theorem arbitrate_active_fresh {s : State} {item : ActiveItem} (ha : s.ap.active = some item)
    (hfresh : item.retryCount = 0) : (arbitrate s).ap.active = some item := by
  obtain h | ⟨granted, hg, -, -, -, h⟩ | ⟨a, -, -, -, -, h⟩ := arbitrate_cases s
  · rw [h, ha]
  · obtain rfl : item = granted := Option.some.inj (ha.symm.trans hg)
    rw [h, grantFetch]
    simp [← hfresh]
  · rw [h]; exact ha

theorem examineAbsorbPath_active_fresh {s : State} {item : ActiveItem} (ha : s.ap.active = some item)
    (hfresh : item.retryCount = 0) : (examineAbsorbPath s).ap.active = some item := by
  have hd : (beginDrain s).ap.active = some item := by rw [beginDrain_active, ha]
  unfold examineAbsorbPath
  obtain h | h := requestFetch_cases (beginDrain s) <;> rw [h]
  · exact hd
  · exact arbitrate_active_fresh hd hfresh

/-- R105: no grant into buffer `i` can come: a burst is on the bus, or the next fill is the other buffer's. -/
def sparesBuffer (i : BufferId) (s : State) : Prop := s.bma.burst ≠ none ∨ s.ap.nextFill = i.other

theorem arbitrate_spares {s : State} {i : BufferId} (hi : sparesBuffer i s) :
    sparesBuffer i (arbitrate s) ∧ (arbitrate s).ap.buffer i = s.ap.buffer i := by
  obtain h | ⟨item, -, -, hb, -, h⟩ | ⟨a, -, -, -, -, h⟩ := arbitrate_cases s <;> rw [h]
  · exact ⟨hi, rfl⟩
  · have hfill : s.ap.nextFill = i.other := hi.resolve_left (absurd hb)
    refine ⟨.inl (by simp [grantFetch]), ?_⟩
    cases i <;> simp [grantFetch, hfill, BufferId.other, AbsorbPath.setBuffer, AbsorbPath.buffer]
  · exact ⟨.inl (by simp [grantCtu]), rfl⟩

theorem requestFetch_spares {s : State} {i : BufferId} (hi : sparesBuffer i s) :
    (requestFetch s).ap.buffer i = s.ap.buffer i := by
  obtain h | h := requestFetch_cases s <;> rw [h]
  exact (arbitrate_spares (s := { s with bma.fetchWaiting := true }) hi).2

theorem sparesBuffer_beginDrain {s : State} {i : BufferId} : sparesBuffer i (beginDrain s) ↔ sparesBuffer i s := by
  simp only [sparesBuffer, beginDrain_bma, beginDrain_nextFill]

/-- R106: with buffer `i` spared, the examination can no more than begin its drain. -/
theorem examineAbsorbPath_spares {s : State} {i : BufferId} (hi : sparesBuffer i s) :
    (examineAbsorbPath s).ap.buffer i = (beginDrain s).ap.buffer i :=
  requestFetch_spares (sparesBuffer_beginDrain.2 hi)

theorem examineAbsorbPath_dc (s : State) : (examineAbsorbPath s).dc = (beginDrain s).dc := by
  rw [examineAbsorbPath, requestFetch_dc]

/-- R109: the end of a burst leaves the Absorb Path as it is while the Fetch Engine has no request waiting. -/
theorem endBurst_ap {s : State} (hf : s.bma.fetchWaiting = false) : (endBurst s).ap = s.ap := by
  obtain h | ⟨item, -, -, -, hw, h⟩ | ⟨a, -, -, -, -, h⟩ := arbitrate_cases { s with bma.burst := none }
  · rw [endBurst, h]
  · rw [show s.bma.fetchWaiting = true from hw] at hf; cases hf
  · rw [endBurst, h]; rfl

end Sys2Proof.Machine
end

section
/-! PROOF. A burst that ends well fills its buffer and brings the next drain and the next burst (R111, R103 to R106,
R109). -/

namespace Sys2Proof.Machine

/-- R111: the item after its burst `b`. -/
def ActiveItem.moved (item : ActiveItem) (b : Burst) : ActiveItem :=
  { item with
    nextAddress := item.nextAddress + BitVec.ofNat 32 b.length
    toFetch := item.toFetch - b.length
    toDrain := item.toDrain + b.length
    retryCount := 0 }

/-- R111: the FILLING buffer filled and the item moved on, the burst still on the bus. -/
def State.filled (s : State) (b : Burst) (item : ActiveItem) (lanes : Vector Byte 64) : State :=
  { s with
    ap := { s.ap with
      bufferA := s.ap.bufferA.fillWith (laneBytes lanes b.length)
      bufferB := s.ap.bufferB.fillWith (laneBytes lanes b.length)
      active := some (item.moved b) } }

theorem landFetch_eq (b : Burst) (item : ActiveItem) (lanes : Vector Byte 64) (s : State) :
    landFetch b item lanes s = examineAbsorbPath (endBurst (s.filled b item lanes)) := rfl

theorem filled_buffer (s : State) (b : Burst) (item : ActiveItem) (lanes : Vector Byte 64) (j : BufferId) :
    (s.filled b item lanes).ap.buffer j = (s.ap.buffer j).fillWith (laneBytes lanes b.length) := by
  cases j <;> rfl

theorem BufferId.eq_or_eq_other (j i : BufferId) : j = i ∨ j = i.other := by
  cases i <;> cases j <;> decide

@[simp] theorem BufferId.other_other (i : BufferId) : i.other.other = i := by cases i <;> rfl

/-- R105: a grant makes the chosen buffer FILLING and leaves the other as it is. -/
theorem fetchGranted_buffer (s : State) (item : ActiveItem) (j : BufferId) :
    (s.fetchGranted item).ap.buffer j =
      if j = s.ap.nextFill then { state := .filling, data := [] } else s.ap.buffer j :=
  (AbsorbPath.buffer_congr rfl rfl j).trans (AbsorbPath.setBuffer_buffer s.ap s.ap.nextFill j _)

theorem fetchGranted_nextFill (s : State) (item : ActiveItem) :
    (s.fetchGranted item).ap.nextFill = s.ap.nextFill.other := rfl

theorem Buffer.fillWith_of_filling {buffer : Buffer} (h : buffer.state = .filling) (bytes : List Byte) :
    buffer.fillWith bytes = { state := .full, data := bytes } := if_pos h

theorem Buffer.fillWith_of_ne {buffer : Buffer} (h : buffer.state ≠ .filling) (bytes : List Byte) :
    buffer.fillWith bytes = buffer := if_neg h

theorem endBurst_frame (s : State) : endBurst s =
    { s with ap := (endBurst s).ap, bma := (endBurst s).bma, ctu.active := (endBurst s).ctu.active } :=
  arbitrate_frame { s with bma.burst := none }

theorem examineAbsorbPath_frame (s : State) : examineAbsorbPath s = { s with
    ap := (examineAbsorbPath s).ap
    dc.mode := (examineAbsorbPath s).dc.mode
    bma := (examineAbsorbPath s).bma
    ctu.active := (examineAbsorbPath s).ctu.active } := by
  rw [examineAbsorbPath_dc, beginDrain_dc]
  conv_lhs => rw [examineAbsorbPath_eq, beginDrain_dc]

/-- What a burst that ends well can change. -/
theorem landFetch_frame (b : Burst) (item : ActiveItem) (lanes : Vector Byte 64) (s : State) :
    landFetch b item lanes s = { s with
      ap := (landFetch b item lanes s).ap
      dc.mode := (landFetch b item lanes s).dc.mode
      bma := (landFetch b item lanes s).bma
      ctu.active := (landFetch b item lanes s).ctu.active } := by
  rw [landFetch_eq]
  have hend := endBurst_frame (s.filled b item lanes)
  have hexamined := examineAbsorbPath_frame (endBurst (s.filled b item lanes))
  generalize examineAbsorbPath (endBurst (s.filled b item lanes)) = t at *
  refine hexamined.trans ?_
  rw [hend]
  rfl

section
variable {s : State} {b : Burst} {item : ActiveItem} {lanes : Vector Byte 64} {i : BufferId}

theorem landFetch_active : (landFetch b item lanes s).ap.active = some (item.moved b) :=
  examineAbsorbPath_active_fresh
    (arbitrate_active_fresh (s := { s.filled b item lanes with bma.burst := none }) rfl rfl) rfl

theorem landFetch_readyQueue : (landFetch b item lanes s).ap.readyQueue = s.ap.readyQueue := by
  rw [landFetch_eq, examineAbsorbPath_readyQueue, endBurst, arbitrate_readyQueue]; rfl

theorem landFetch_nextDrain : (landFetch b item lanes s).ap.nextDrain = s.ap.nextDrain := by
  rw [landFetch_eq, examineAbsorbPath_nextDrain, endBurst, arbitrate_nextDrain]; rfl

/-- R111, R104, R106: the buffer that was FILLING takes the burst's bytes, and begins its drain when it is the next and
the Digest Core is idle. -/
theorem landFetch_buffer (hi : (s.ap.buffer i).state = .filling) (hfill : s.ap.nextFill = i.other) :
    (landFetch b item lanes s).ap.buffer i =
      { state := if s.dc.mode = .idle ∧ s.ap.nextDrain = i then .draining else .full,
        data := laneBytes lanes b.length } := by
  have hspared : sparesBuffer i { s.filled b item lanes with bma.burst := none } := .inr hfill
  have hspared' : sparesBuffer i (endBurst (s.filled b item lanes)) := (arbitrate_spares hspared).1
  have hfull : (endBurst (s.filled b item lanes)).ap.buffer i = { state := .full, data := laneBytes lanes b.length } :=
    (arbitrate_spares hspared).2.trans ((filled_buffer s b item lanes i).trans (Buffer.fillWith_of_filling hi _))
  have hactive : (endBurst (s.filled b item lanes)).ap.active = some (item.moved b) :=
    arbitrate_active_fresh (s := { s.filled b item lanes with bma.burst := none }) rfl rfl
  have hnext : (endBurst (s.filled b item lanes)).ap.nextDrain = s.ap.nextDrain := by
    rw [endBurst, arbitrate_nextDrain]; rfl
  rw [landFetch_eq, examineAbsorbPath_spares hspared', beginDrain_buffer, hfull, hactive, hnext, endBurst_dc]
  by_cases h : s.dc.mode = .idle ∧ s.ap.nextDrain = i
  · rw [if_pos ⟨h.1, rfl, h.2, rfl⟩, if_pos h]
  · rw [if_neg (fun h' => h ⟨h'.1, h'.2.2.1⟩), if_neg h]

/-- R106: the Digest Core begins a drain when it is idle and the next buffer to drain is FULL. -/
theorem landFetch_mode (hi : (s.ap.buffer i).state = .filling) (hother : (s.ap.buffer i.other).state ≠ .filling)
    (hf : s.bma.fetchWaiting = false) :
    (landFetch b item lanes s).dc.mode =
      if s.dc.mode = .idle ∧ (s.ap.nextDrain = i ∨ (s.ap.buffer i.other).state = .full) then .draining
      else s.dc.mode := by
  have hap : (endBurst (s.filled b item lanes)).ap = (s.filled b item lanes).ap := endBurst_ap hf
  have hfull : ((s.filled b item lanes).ap.buffer s.ap.nextDrain).state = .full ↔
      (s.ap.nextDrain = i ∨ (s.ap.buffer i.other).state = .full) := by
    rw [filled_buffer]
    obtain h | h := BufferId.eq_or_eq_other s.ap.nextDrain i
    · simp [h, Buffer.fillWith_of_filling hi]
    · simp [h, Buffer.fillWith_of_ne hother]
  rw [landFetch_eq, examineAbsorbPath_dc, beginDrain_dc, hap, endBurst_dc]
  have hwhen : ((s.filled b item lanes).dc.mode = .idle ∧ (s.filled b item lanes).ap.active.isSome ∧
      ((s.filled b item lanes).ap.buffer (s.filled b item lanes).ap.nextDrain).state = .full) ↔
      (s.dc.mode = .idle ∧ (s.ap.nextDrain = i ∨ (s.ap.buffer i.other).state = .full)) :=
    ⟨fun h => ⟨h.1, hfull.1 h.2.2⟩, fun h => ⟨h.1, rfl, hfull.2 h.2⟩⟩
  exact if_congr hwhen rfl rfl

/-- R103: after a burst that ended well the next is wanted when bytes are left and the other buffer is EMPTY. -/
theorem wantsBurst_after_fill {t : State} (hrun : s.ec.engine = .run) (hcut : item.cut = false)
    (hfail : item.failure = none) (hi : (s.ap.buffer i).state = .filling)
    (hother : (s.ap.buffer i.other).state ≠ .filling) (hec : t.ec = s.ec) (hap : t.ap = (s.filled b item lanes).ap)
    (hb : t.bma.burst.all (·.requester != .fetch)) (hf : t.bma.fetchWaiting = false) :
    wantsBurst t (item.moved b) ↔ 0 < item.toFetch - b.length ∧ (s.ap.buffer i.other).state = .empty := by
  have hself : (t.ap.buffer i).state = .full := by rw [hap, filled_buffer, Buffer.fillWith_of_filling hi]
  have hsame : t.ap.buffer i.other = s.ap.buffer i.other := by
    rw [hap, filled_buffer, Buffer.fillWith_of_ne hother]
  simp [wantsBurst, ActiveItem.moved, hcut, hfail, hb, hf, AbsorbPath.someEmpty_iff _ i, hself, hsame, hec, hrun]

/-- R106: what the examination of the Digest Core leaves in the other buffer. -/
theorem beginDrain_after_fill {t : State} (hother : (s.ap.buffer i.other).state ≠ .filling)
    (hdc : t.dc = s.dc) (hap : t.ap = (s.filled b item lanes).ap) :
    (beginDrain t).ap.buffer i.other =
      if s.dc.mode = .idle ∧ s.ap.nextDrain = i.other ∧ (s.ap.buffer i.other).state = .full then
        { s.ap.buffer i.other with state := .draining }
      else s.ap.buffer i.other := by
  rw [beginDrain_buffer, hdc, hap, filled_buffer, Buffer.fillWith_of_ne hother]
  simp [State.filled]

/-- R103, R109: with no request waiting and no byte or buffer left for another, the bus master is idle. -/
theorem landFetch_unwanted (hrun : s.ec.engine = .run) (hcut : item.cut = false) (hfail : item.failure = none)
    (hi : (s.ap.buffer i).state = .filling) (hother : (s.ap.buffer i.other).state ≠ .filling)
    (hf : s.bma.fetchWaiting = false) (hc : s.bma.ctuWaiting = false)
    (hw : ¬ (0 < item.toFetch - b.length ∧ (s.ap.buffer i.other).state = .empty)) :
    landFetch b item lanes s = beginDrain { s.filled b item lanes with bma.burst := none } := by
  have hwants := wantsBurst_after_fill (b := b) (lanes := lanes) (t := { s.filled b item lanes with bma.burst := none })
    hrun hcut hfail hi hother rfl rfl rfl hf
  rw [landFetch_eq, endBurst_of_none (s := s.filled b item lanes) hf hc]
  exact examineAbsorbPath_unwanted rfl (mt hwants.1 hw)

/-- R103, R109: with no request waiting, bytes left and the other buffer EMPTY, the next burst is granted. -/
theorem landFetch_granted (hrun : s.ec.engine = .run) (hcut : item.cut = false) (hfail : item.failure = none)
    (hi : (s.ap.buffer i).state = .filling) (hother : (s.ap.buffer i.other).state ≠ .filling)
    (hf : s.bma.fetchWaiting = false) (hc : s.bma.ctuWaiting = false)
    (hw : 0 < item.toFetch - b.length ∧ (s.ap.buffer i.other).state = .empty) :
    landFetch b item lanes s =
      (beginDrain { s.filled b item lanes with bma.burst := none }).fetchGranted (item.moved b) := by
  have hwants := wantsBurst_after_fill (b := b) (lanes := lanes) (t := { s.filled b item lanes with bma.burst := none })
    hrun hcut hfail hi hother rfl rfl rfl hf
  rw [landFetch_eq, endBurst_of_none (s := s.filled b item lanes) hf hc]
  exact examineAbsorbPath_granted rfl (hwants.2 hw) rfl hc

/-- R109: with the CTU waiting, its burst is granted, and a burst that is still wanted waits. -/
theorem landFetch_ctuGranted {a : ActiveTransfer} (hrun : s.ec.engine = .run) (hcut : item.cut = false)
    (hfail : item.failure = none) (hi : (s.ap.buffer i).state = .filling)
    (hother : (s.ap.buffer i.other).state ≠ .filling) (hf : s.bma.fetchWaiting = false) (hc : s.bma.ctuWaiting = true)
    (ha : s.ctu.active = some a) :
    landFetch b item lanes s =
      { beginDrain ((s.filled b item lanes).ctuGranted a) with
        bma.fetchWaiting := decide (0 < item.toFetch - b.length ∧ (s.ap.buffer i.other).state = .empty) } := by
  have hwants := wantsBurst_after_fill (b := b) (lanes := lanes) (t := (s.filled b item lanes).ctuGranted a)
    hrun hcut hfail hi hother rfl rfl rfl hf
  rw [landFetch_eq, endBurst_of_ctuWaiting (s := s.filled b item lanes) hrun hc hf ha]
  by_cases hw : 0 < item.toFetch - b.length ∧ (s.ap.buffer i.other).state = .empty
  · rw [decide_eq_true hw]
    exact examineAbsorbPath_waits rfl (hwants.2 hw) (by simp [State.ctuGranted])
  · rw [decide_eq_false hw]
    refine (examineAbsorbPath_unwanted rfl (mt hwants.1 hw)).trans ?_
    have hkept : (beginDrain ((s.filled b item lanes).ctuGranted a)).bma.fetchWaiting = false := by
      rw [beginDrain_bma]; exact hf
    rw [← hkept]

/-- Settles O39. -/
theorem fetchedBurstFillsBuffer : Obligations.FetchedBurstFillsBuffer := by
  intro s b item lanes i hrun hburst hb ha hcut hfail hi hother hfill
  have hbuffer := landFetch_buffer (b := b) (item := item) (lanes := lanes) hi hfill
  refine ⟨landFetch b item lanes s, ?_, landFetch_frame b item lanes s, landFetch_readyQueue, landFetch_active,
    congrArg Buffer.data hbuffer, congrArg Buffer.state hbuffer, landFetch_nextDrain,
    fun hf => ⟨landFetch_mode hi hother hf, fun hc => ?_, fun hc hw => ?_, fun hc hw => ?_, fun a hc hactive => ?_⟩⟩
  · rw [exec_burstOk hburst, answerOk_fetch ((unwanted_fetch hrun hb ha).trans hcut) hb ha]
  · by_cases hw : 0 < item.toFetch - b.length ∧ (s.ap.buffer i.other).state = .empty
    · rw [landFetch_granted hrun hcut hfail hi hother hf hc hw, State.fetchGranted, beginDrain_ctu]; rfl
    · rw [landFetch_unwanted hrun hcut hfail hi hother hf hc hw, beginDrain_ctu]; rfl
  · rw [landFetch_granted hrun hcut hfail hi hother hf hc hw]
    have hnext : (beginDrain { s.filled b item lanes with bma.burst := none }).ap.nextFill = i.other := by
      rw [beginDrain_nextFill]; exact hfill
    refine ⟨?_, ?_, ?_⟩
    · rw [fetchGranted_buffer, hnext, if_pos rfl]
    · rw [fetchGranted_nextFill, hnext, BufferId.other_other]
    · simp only [State.fetchGranted, beginDrain_bma, State.filled, hc]
      rfl
  · rw [landFetch_unwanted hrun hcut hfail hi hother hf hc hw]
    refine ⟨beginDrain_after_fill hother rfl rfl, ?_, ?_⟩
    · rw [beginDrain_nextFill]; exact hfill
    · rw [beginDrain_bma]; rfl
  · rw [landFetch_ctuGranted hrun hcut hfail hi hother hf hc hactive]
    refine ⟨beginDrain_after_fill hother rfl rfl, ?_, ?_, ?_⟩
    · exact (beginDrain_nextFill _).trans hfill
    · simp only [beginDrain_ctu]; rfl
    · simp only [beginDrain_bma]; rfl

end

end Sys2Proof.Machine
end

section
/-! PROOF. The end of a drain (R106, R127): its bytes absorbed into the stream, or discarded; with the next drain and
the next burst that it brings. -/

namespace Sys2Proof.Machine

theorem exec_drainEnd_absorbed {s : State} {item : ActiveItem} (hrun : s.ec.engine = .run)
    (hmode : s.dc.mode = .draining) (ha : s.ap.active = some item) (hcut : item.cut = false)
    (hfail : item.failure = none) : exec .drainEnd s = .next (afterDrain (absorbDrain item s)) := by
  change execDrainEnd s = _
  simp only [execDrainEnd, hrun, hmode, ha]
  exact if_pos ⟨hcut, hfail⟩

theorem exec_drainEnd_discarded {s : State} {item : ActiveItem} (hrun : s.ec.engine = .run)
    (hmode : s.dc.mode = .draining) (ha : s.ap.active = some item) (h : item.cut = true ∨ item.failure ≠ none) :
    exec .drainEnd s = .next (discardDrain item s) := by
  change execDrainEnd s = _
  simp only [execDrainEnd, hrun, hmode, ha]
  exact if_neg fun h' => h.elim (by simp [h'.1]) (absurd h'.2)

/-- R106, R127: what the end of a drain leaves beside the stream's context. -/
def State.drained (s : State) (item : ActiveItem) (x : Absorption) (bytes : List Byte) : State :=
  { s with
    ap := { s.ap.setBuffer s.ap.nextDrain Buffer.cleared with
      nextDrain := s.ap.nextDrain.other
      active := some { item with toDrain := item.toDrain - bytes.length } }
    dc := { s.dc with mode := .idle, residue := x.residue, chaining := x.chaining } }

/-- R106, R127: the state once the drained bytes are absorbed, before what follows is examined. -/
def State.absorbed (s : State) (item : ActiveItem) (x : Absorption) (bytes : List Byte) : State :=
  (s.drained item x bytes).setStream item.stream { s.stream item.stream with
    absorbed := (s.stream item.stream).absorbed + bytes.length
    residue := x.residue
    chaining := x.chaining }

theorem absorbDrain_eq {s : State} {alg : Algorithm} (halg : s.dc.algorithm = some alg) (item : ActiveItem) :
    absorbDrain item s = s.absorbed item
      (absorbBytes alg { residue := s.dc.residue, chaining := s.dc.chaining } (s.ap.buffer s.ap.nextDrain).data)
      (s.ap.buffer s.ap.nextDrain).data := by
  obtain rfl : s.dc.noted = alg := by rw [DigestCore.noted, halg, Option.getD_some]
  rfl

theorem afterDrain_of_left {s : State} {item : ActiveItem} (ha : s.ap.active = some item)
    (hleft : ¬ (item.toFetch = 0 ∧ item.toDrain = 0)) : afterDrain s = examineAbsorbPath s := by
  simp only [afterDrain, ha]
  exact if_neg hleft

section
variable {s : State} {item : ActiveItem} {x : Absorption} {bytes : List Byte}

theorem absorbed_buffer (j : BufferId) :
    (s.absorbed item x bytes).ap.buffer j = if j = s.ap.nextDrain then Buffer.cleared else s.ap.buffer j :=
  (AbsorbPath.buffer_congr rfl rfl j).trans (AbsorbPath.setBuffer_buffer s.ap s.ap.nextDrain j _)

@[simp] theorem absorbed_nextFill : (s.absorbed item x bytes).ap.nextFill = s.ap.nextFill :=
  AbsorbPath.setBuffer_nextFill _ _ _

@[simp] theorem absorbed_readyQueue : (s.absorbed item x bytes).ap.readyQueue = s.ap.readyQueue :=
  AbsorbPath.setBuffer_readyQueue _ _ _

/-- R106: which buffer the Digest Core drains next, and whether it begins. -/
theorem beginDrain_absorbed_buffer (j : BufferId) :
    (beginDrain (s.absorbed item x bytes)).ap.buffer j =
      if j = s.ap.nextDrain then Buffer.cleared
      else if (s.ap.buffer s.ap.nextDrain.other).state = .full then
        { s.ap.buffer s.ap.nextDrain.other with state := .draining }
      else s.ap.buffer s.ap.nextDrain.other := by
  rw [beginDrain_buffer, absorbed_buffer]
  obtain rfl | rfl := BufferId.eq_or_eq_other j s.ap.nextDrain
  · simp [State.absorbed, State.drained, Buffer.cleared]
  · simp [State.absorbed, State.drained]

theorem beginDrain_absorbed_mode :
    (beginDrain (s.absorbed item x bytes)).dc.mode =
      if (s.ap.buffer s.ap.nextDrain.other).state = .full then .draining else .idle := by
  have hbuffer : (s.absorbed item x bytes).ap.buffer s.ap.nextDrain.other = s.ap.buffer s.ap.nextDrain.other := by
    rw [absorbed_buffer, if_neg (BufferId.other_ne _)]
  rw [beginDrain_dc]
  change (if DigestMode.idle = .idle ∧ true = true ∧
    ((s.absorbed item x bytes).ap.buffer s.ap.nextDrain.other).state = .full then DigestMode.draining else .idle) = _
  simp [hbuffer]

/-- R103: a drained buffer is EMPTY, so the next burst is wanted when bytes are left and none is under way. -/
theorem wantsBurst_absorbed (hrun : s.ec.engine = .run) (hcut : item.cut = false) (hfail : item.failure = none) :
    wantsBurst (s.absorbed item x bytes) { item with toDrain := item.toDrain - bytes.length } ↔
      0 < item.toFetch ∧ (∀ b, s.bma.burst = some b → b.requester = .ctu) ∧ s.bma.fetchWaiting = false := by
  have hempty : ((s.absorbed item x bytes).ap.buffer s.ap.nextDrain).state = .empty := by
    rw [absorbed_buffer, if_pos rfl]; rfl
  have hother : s.bma.burst.all (·.requester != .fetch) = true ↔ ∀ b, s.bma.burst = some b → b.requester = .ctu := by
    cases s.bma.burst with
    | none => simp
    | some b => cases hb : b.requester <;> simp [hb]
  rw [wantsBurst, AbsorbPath.someEmpty_iff _ s.ap.nextDrain, ← hother]
  simp only [hempty, true_or, true_and, hcut, hfail]
  exact ⟨fun h => ⟨h.1, h.2.1, h.2.2.1⟩, fun h => ⟨h.1, h.2.1, h.2.2, hrun⟩⟩

end

/-- Settles O44. -/
theorem drainIsAbsorbedOrDiscarded : Obligations.DrainIsAbsorbedOrDiscarded := by
  refine ⟨fun s item alg hrun hmode ha hcut hfail halg => ?_, fun s item hrun hmode ha h =>
    exec_drainEnd_discarded hrun hmode ha h⟩
  intro bytes x drained other after wanted hleft
  set u := s.absorbed item x bytes with hu
  have hactive : u.ap.active = some { item with toDrain := item.toDrain - bytes.length } := rfl
  have hwants : wantsBurst u _ ↔ wanted := wantsBurst_absorbed hrun hcut hfail
  have hafter : ∀ j, (beginDrain u).ap.buffer j = after j := fun j => beginDrain_absorbed_buffer j
  have hfillNext : (beginDrain u).ap.nextFill = s.ap.nextFill := by rw [beginDrain_nextFill, hu, absorbed_nextFill]
  have hleft' : ¬ (item.toFetch = 0 ∧ item.toDrain - bytes.length = 0) := fun h => by omega
  refine ⟨examineAbsorbPath u, ?_, ?_, ?_, examineAbsorbPath_active u _ hactive, ?_, ?_, fun hw => ?_,
    fun hw hb => ?_, fun hw hb hc => ?_⟩
  · rw [exec_drainEnd_absorbed hrun hmode ha hcut hfail, absorbDrain_eq halg,
      afterDrain_of_left rfl hleft']
  · exact examineAbsorbPath_frame u
  · rw [examineAbsorbPath_readyQueue, hu, absorbed_readyQueue]
  · exact examineAbsorbPath_nextDrain u
  · rw [examineAbsorbPath_dc]; exact beginDrain_absorbed_mode
  · rw [examineAbsorbPath_unwanted hactive (mt hwants.1 hw)]
    exact ⟨hafter, hfillNext, beginDrain_bma u, congrArg TransferUnit.active (beginDrain_ctu u)⟩
  · rw [examineAbsorbPath_waits hactive (hwants.2 hw) hb]
    exact ⟨hafter, hfillNext, by simp only [beginDrain_bma]; rfl, by simp only [beginDrain_ctu]; rfl⟩
  · rw [examineAbsorbPath_granted hactive (hwants.2 hw) hb hc]
    refine ⟨fun j => ?_, ?_, ?_, ?_⟩
    · rw [fetchGranted_buffer, hfillNext, hafter]
    · rw [fetchGranted_nextFill, hfillNext]
    · simp only [State.fetchGranted, beginDrain_ctu]; rfl
    · simp only [State.fetchGranted, beginDrain_bma]
      change BusArbiter.mk _ _ s.bma.ctuWaiting _ = _
      rw [hc]

end Sys2Proof.Machine
end

section
/-! PROOF. The ends of an item: its last bytes drained (R107, R129), its finalization (R132), the fault report (R114)
and the end of its cut (R117). -/

namespace Sys2Proof.Machine

/-! ### The item dropped -/

/-- R107: the state with no active item and the Digest Core at rest. -/
def State.itemless (s : State) : State := { s with ap.active := none, dc := DigestCore.atRest }

theorem dropActive_setStream (s : State) (h : Handle) (c : StreamContext) :
    dropActive h (s.setStream h c) = (s.setStream h { c with inFlight := c.inFlight - 1 }).itemless := by
  rw [dropActive, updateStream_setStream]; rfl

theorem updateStream_dropActive (s : State) (h : Handle) (f : StreamContext → StreamContext) :
    (dropActive h s).updateStream h f =
      (s.setStream h (f { s.stream h with inFlight := (s.stream h).inFlight - 1 })).itemless :=
  congrArg State.itemless (updateStream_updateStream s h _ f)

theorem refOf_setStream (s : State) (h : Handle) (c : StreamContext) :
    (s.setStream h c).refOf h =
      { state := c.state, handle := h, generation := c.generation, absorbed := c.absorbed } := by
  simp [State.refOf]

@[simp] theorem refOf_itemless (s : State) (h : Handle) : s.itemless.refOf h = s.refOf h := rfl

/-! ### The drain of the last bytes (R107, R129) -/

theorem afterDrain_of_finalizing {s : State} {item : ActiveItem} (ha : s.ap.active = some item)
    (hnone : item.toFetch = 0 ∧ item.toDrain = 0) (hending : (s.stream item.stream).state = .ending)
    (hend : (s.stream item.stream).declaredEnd = some (s.stream item.stream).absorbed) :
    afterDrain s = { s with dc.mode := .finalizing } := by
  simp only [afterDrain, ha]
  exact (if_pos hnone).trans (if_pos ⟨hending, hend⟩)

theorem afterDrain_of_finished {s : State} {item : ActiveItem} (ha : s.ap.active = some item)
    (hnone : item.toFetch = 0 ∧ item.toDrain = 0)
    (hnot : ¬ ((s.stream item.stream).state = .ending ∧
      (s.stream item.stream).declaredEnd = some (s.stream item.stream).absorbed)) :
    afterDrain s = finishItem item s := by
  simp only [afterDrain, ha]
  exact (if_pos hnone).trans (if_neg hnot)

/-- R107: an item ends normally once its last bytes are drained. -/
theorem finishItem_drained (s : State) (item : ActiveItem) (x : Absorption) (bytes : List Byte) (c : StreamContext) :
    finishItem { item with toDrain := item.toDrain - bytes.length }
        ((s.drained item x bytes).setStream item.stream c) =
      ((s.drained item x bytes).setStream item.stream { c with inFlight := c.inFlight - 1 }).itemless.afterEndings
        [recordOf s item.slot .ok (some { state := c.state, handle := item.stream, generation := c.generation,
                                          absorbed := c.absorbed })] := by
  simp only [finishItem]
  rw [dropActive_setStream, refOf_itemless, refOf_setStream]
  exact complete_congr rfl _ _ _

/-- Settles O45. -/
theorem lastDrainEndsOrFinalizes : Obligations.LastDrainEndsOrFinalizes := by
  intro s item alg hrun hmode ha hcut hfail halg c bytes x c' ap hfetch hdrain
  set u := s.absorbed item x bytes with hu
  have hset : u = (s.drained item x bytes).setStream item.stream c' := rfl
  have hstream : u.stream item.stream = c' := by rw [hset, stream_setStream, if_pos rfl]
  have hnone : item.toFetch = 0 ∧ item.toDrain - bytes.length = 0 := ⟨hfetch, by omega⟩
  have hexec : exec .drainEnd s = .next (afterDrain u) := by
    rw [exec_drainEnd_absorbed hrun hmode ha hcut hfail, absorbDrain_eq halg]
  refine ⟨fun hending hend => ?_, fun hnot => ?_⟩
  · rw [hexec, afterDrain_of_finalizing rfl hnone (by rw [hstream]; exact hending) (by rw [hstream]; exact hend), hu,
      State.absorbed, State.drained, hnone.2, ← halg]
    rfl
  · rw [hexec, afterDrain_of_finished rfl hnone
      (by rw [hstream]; exact fun h => hnot.elim (fun hne => hne h.1) fun hne => hne h.2)]
    exact congrArg Host.Outcome.next (finishItem_drained s item x bytes c')

/-! ### The end of a finalization and of a cut (R132, R64, R67) -/

/-- R65, R67: an item ends ABANDONED, and the control that waits is served. -/
theorem abandonActive_of_pending {s : State} {item : ActiveItem} {p : SlotId}
    (hp : (s.stream item.stream).pendingControl = some p) :
    abandonActive item s =
      (s.setStream item.stream (freeContext (s.stream item.stream).generation)).itemless.afterEndings
        [recordOf s item.slot .abandoned (some (s.freedRef item.stream)),
          recordOf s p .ok (some (s.freedRef item.stream))] := by
  have hfreed : freeStream item.stream (dropActive item.stream s) =
      (s.setStream item.stream (freeContext (s.stream item.stream).generation)).itemless :=
    updateStream_dropActive s item.stream fun c => freeContext c.generation
  have href : (dropActive item.stream s).freedRef item.stream = s.freedRef item.stream := by
    simp [State.freedRef, State.refOf]
  simp only [abandonActive, stream_dropActive, if_pos, hp, hfreed, href]
  exact completeAll_congr rfl _ _

/-- R64: with no control waiting, the stream stays. -/
theorem abandonActive_of_none {s : State} {item : ActiveItem} (hp : (s.stream item.stream).pendingControl = none) :
    abandonActive item s =
      (s.setStream item.stream
        { s.stream item.stream with inFlight := (s.stream item.stream).inFlight - 1 }).itemless.afterEndings
        [recordOf s item.slot .abandoned (some (s.refOf item.stream))] := by
  have href : (dropActive item.stream s).refOf item.stream = s.refOf item.stream := by
    simp [State.refOf]
  have hnone : ((dropActive item.stream s).stream item.stream).pendingControl = none := by
    rw [stream_dropActive, if_pos rfl]; exact hp
  simp only [abandonActive, hnone, href]
  exact completeAll_congr rfl _ _

theorem exec_finalizationEnd {s : State} {item : ActiveItem} (hrun : s.ec.engine = .run)
    (hmode : s.dc.mode = .finalizing) (ha : s.ap.active = some item) :
    exec .finalizationEnd s =
      if (s.stream item.stream).state = .aborting then .next (abandonActive item s)
      else .next (storeDigest item s) := by
  change execFinalizationEnd s = _
  simp only [execFinalizationEnd, hrun, hmode, ha]

/-- R132, R16: the context of a stream whose digest `chaining` holds. -/
def StreamContext.digested (c : StreamContext) (alg : Algorithm) (chaining : Vector Byte 64) : StreamContext :=
  { c with
    state := .final
    digest := some (digestOf alg chaining)
    residue := []
    chaining := Vector.replicate 64 0
    inFlight := c.inFlight - 1 }

/-- What a record shows of stream `h` in the state `st`. -/
def State.refAs (s : State) (h : Handle) (st : StreamState) : StreamRef :=
  { state := st, handle := h, generation := (s.stream h).generation, absorbed := (s.stream h).absorbed }

/-- R132: the digest is stored, the stream FINAL. -/
theorem storeDigest_eq {s : State} {item : ActiveItem} {alg : Algorithm} {length : Nat}
    (halg : s.dc.algorithm = some alg) (hend : (s.stream item.stream).declaredEnd = some length) :
    storeDigest item s =
      (s.setStream item.stream ((s.stream item.stream).digested alg
        (finalChaining alg { residue := s.dc.residue, chaining := s.dc.chaining } length))).itemless.afterEndings
        [recordOf s item.slot .okFinal (some (s.refAs item.stream .final))] := by
  obtain rfl : s.dc.noted = alg := by rw [DigestCore.noted, halg, Option.getD_some]
  simp only [storeDigest, hend, Option.getD_some]
  rw [updateStream_dropActive, refOf_itemless, refOf_setStream]
  exact complete_congr rfl _ _ _

/-- Settles O46. -/
theorem finalizationEndsTheStream : Obligations.FinalizationEndsTheStream := by
  intro s item alg hrun hmode ha halg c
  refine ⟨fun length hending hend => ?_, fun p haborting hp => ?_⟩
  · rw [exec_finalizationEnd hrun hmode ha, if_neg (fun h => by rw [hending] at h; cases h), storeDigest_eq halg hend]
    rfl
  · intro ref
    rw [exec_finalizationEnd hrun hmode ha, if_pos haborting, abandonActive_of_pending hp]
    rfl

/-! ### The fault report (R114, R61, R62) -/

/-- R114: with no burst but the CTU's on the bus and no buffer DRAINING, the item is quiet. -/
theorem quiet_of {s : State} (hb : ∀ b, s.bma.burst = some b → b.requester = .ctu)
    (hA : s.ap.bufferA.state ≠ .draining) (hB : s.ap.bufferB.state ≠ .draining) : s.quiet := by
  refine ⟨?_, hA, hB⟩
  cases hburst : s.bma.burst with
  | none => rfl
  | some b => simp [hb b hburst]

theorem exec_faultReport {s : State} {item : ActiveItem} {failure : BusFailure} (hrun : s.ec.engine = .run)
    (ha : s.ap.active = some item) (hfail : item.failure = some failure) (hquiet : s.quiet) :
    exec .faultReport s =
      if item.cut then .next (abandonActive item s) else .next (faultStream item failure s) := by
  change execFaultReport s = _
  simp only [execFaultReport, hrun, ha, hfail]
  exact if_pos hquiet

/-- R61, R62: the context of a stream that a failed fetch has faulted. -/
def State.faulted (s : State) (h : Handle) (code : FaultCode) : StreamContext :=
  { s.stream h with
    state := .faulted
    faultCode := some code
    holdList := []
    gapTimer := none
    inFlight := (s.stream h).inFlight - 1 - (s.ap.readyQueue.filter (·.stream == h)).length }

/-- R61, R62: the teardown of a stream whose item failed, and its endings. -/
theorem faultStream_eq (item : ActiveItem) (failure : BusFailure) (s : State) :
    faultStream item failure s =
      (s.tornDown item.stream (s.faulted item.stream failure.faultCode)).itemless.afterEndings
        ((removedWork item.stream .abandoned s ++ [(item.slot, failure.status)]).map fun e =>
          recordOf s e.1 e.2 (some (s.refAs item.stream .faulted))) := by
  have hstate : (removeWork item.stream (dropActive item.stream s)).updateStream item.stream
      (fun c => { c with state := .faulted, faultCode := some failure.faultCode }) =
      (s.tornDown item.stream (s.faulted item.stream failure.faultCode)).itemless := by
    rw [removeWork_eq, updateStream_tornDown]
    simp [State.tornDown, State.emptied, State.faulted, State.itemless, dropActive, State.updateStream, State.setStream,
      State.stream]
  have href : (s.tornDown item.stream (s.faulted item.stream failure.faultCode)).itemless.refOf item.stream =
      s.refAs item.stream .faulted := by
    rw [refOf_itemless]
    simp [State.refOf, State.faulted, State.refAs]
  simp only [faultStream, hstate, href]
  exact completeAll_congr rfl _ _

/-- Settles O47. -/
theorem faultReportFaultsStream : Obligations.FaultReportFaultsStream := by
  intro s item status code hrun ha hkind hcut hb hA hB c dropped ref
  obtain ⟨failure, hfail, rfl, rfl⟩ :
      ∃ failure, item.failure = some failure ∧ status = failure.status ∧ code = failure.faultCode := by
    obtain ⟨hfail, rfl, rfl⟩ | ⟨hfail, rfl, rfl⟩ := hkind <;> exact ⟨_, hfail, rfl, rfl⟩
  rw [exec_faultReport hrun ha hfail (quiet_of hb hA hB), if_neg (by simp [hcut]), faultStream_eq, List.map_append,
    removedWork_abandoned]
  rfl

/-! ### The end of a cut (R117) -/

/-- R117, R114: each of the two reports of a cut item. -/
theorem exec_cut_report {cmd : Instr} {s : State} {item : ActiveItem} (hrun : s.ec.engine = .run)
    (ha : s.ap.active = some item) (hcut : item.cut = true) (hb : ∀ b, s.bma.burst = some b → b.requester = .ctu)
    (hcmd : cmd = .cutEnd ∧ item.failure = none ∧ s.bma.fetchWaiting = false ∧ s.ap.bufferA.state = .empty ∧
        s.ap.bufferB.state = .empty ∨
      cmd = .faultReport ∧ item.failure ≠ none ∧ s.ap.bufferA.state ≠ .draining ∧ s.ap.bufferB.state ≠ .draining) :
    exec cmd s = .next (abandonActive item s) := by
  obtain ⟨rfl, hfail, hf, hA, hB⟩ | ⟨rfl, hfail, hA, hB⟩ := hcmd
  · change execCutEnd s = _
    simp only [execCutEnd, hrun, ha]
    exact if_pos ⟨hcut, hfail, quiet_of hb (by simp [hA]) (by simp [hB]), hf, hA, hB⟩
  · obtain ⟨failure, hfail⟩ := Option.ne_none_iff_exists'.1 hfail
    rw [exec_faultReport hrun ha hfail (quiet_of hb hA hB), if_pos hcut]

/-- Settles O48. -/
theorem cutItemEndsAbandoned : Obligations.CutItemEndsAbandoned := by
  intro cmd s item hrun ha hcut hb hcmd c
  rw [exec_cut_report hrun ha hcut hb hcmd]
  refine ⟨fun p hp => ?_, fun hp => ?_⟩
  · rw [abandonActive_of_pending hp]; rfl
  · rw [abandonActive_of_none hp]; rfl

end Sys2Proof.Machine
end

section
/-! PROOF. The digest of a message absorbed in pieces (R123, R126, R132). -/

namespace Sys2Proof.Machine

/-- R126: bytes absorbed in pieces, however split, are absorbed as one run. -/
theorem foldl_absorbBytes (alg : Algorithm) (x : Absorption) (pieces : List (List Byte)) :
    pieces.foldl (absorbBytes alg) x = absorbBytes alg x pieces.flatten :=
  List.foldl_flatten.symm

theorem absorbBytes_append (alg : Algorithm) (x : Absorption) (bytes more : List Byte) :
    absorbBytes alg x (bytes ++ more) = absorbBytes alg (absorbBytes alg x bytes) more :=
  List.foldl_append

/-- The first `q` blocks of `n` bytes are the same before and after a byte is appended past them. -/
theorem map_block_append_singleton {n q : Nat} {bytes : List Byte} (hq : n * q ≤ bytes.length) (b : Byte) :
    ((List.range q).map fun k => ((bytes ++ [b]).drop (n * k)).take n) =
      (List.range q).map fun k => (bytes.drop (n * k)).take n := by
  refine List.map_congr_left fun k hk => ?_
  have hle : n * k + n ≤ bytes.length := by
    calc n * k + n = n * (k + 1) := (Nat.mul_succ n k).symm
      _ ≤ n * q := Nat.mul_le_mul_left n (List.mem_range.1 hk)
      _ ≤ bytes.length := hq
  rw [List.drop_append_of_le_length (by omega), List.take_append_of_le_length (by simp; omega)]

/-- R126: the residue: the bytes after the last whole block. -/
def afterBlocks (n : Nat) (bytes : List Byte) : List Byte := bytes.drop (n * (bytes.length / n))

theorem length_afterBlocks (n : Nat) (bytes : List Byte) : (afterBlocks n bytes).length = bytes.length % n := by
  rw [afterBlocks, List.length_drop]
  have := Nat.div_add_mod bytes.length n
  omega

theorem afterBlocks_append_singleton {n : Nat} {bytes : List Byte} {b : Byte}
    (hsame : (bytes.length + 1) / n = bytes.length / n) :
    afterBlocks n (bytes ++ [b]) = afterBlocks n bytes ++ [b] := by
  rw [afterBlocks, List.length_append, List.length_singleton, hsame, afterBlocks,
    List.drop_append_of_le_length (Nat.mul_div_le _ _)]

theorem wholeBlocks_append_same {n : Nat} {bytes : List Byte} {b : Byte}
    (hsame : (bytes.length + 1) / n = bytes.length / n) : wholeBlocks n (bytes ++ [b]) = wholeBlocks n bytes := by
  rw [wholeBlocks, List.length_append, List.length_singleton, hsame, map_block_append_singleton (Nat.mul_div_le _ _)]
  rfl

/-- R126: a byte that completes a block adds it to the whole blocks. -/
theorem wholeBlocks_append_full {n : Nat} {bytes : List Byte} {b : Byte}
    (hnext : (bytes.length + 1) / n = bytes.length / n + 1) (hfull : bytes.length % n + 1 = n) :
    wholeBlocks n (bytes ++ [b]) = wholeBlocks n bytes ++ [afterBlocks n bytes ++ [b]] := by
  have hlast : ((bytes ++ [b]).drop (n * (bytes.length / n))).take n = afterBlocks n bytes ++ [b] := by
    rw [List.drop_append_of_le_length (Nat.mul_div_le _ _)]
    refine List.take_of_length_le ?_
    rw [List.length_append, ← afterBlocks, length_afterBlocks, List.length_singleton, hfull]
  rw [wholeBlocks, List.length_append, List.length_singleton, hnext, List.range_succ, List.map_append,
    map_block_append_singleton (Nat.mul_div_le _ _), List.map_singleton, hlast]
  rfl

theorem succ_div_of_full {n length : Nat} (hpos : 0 < n) (hfull : length % n + 1 = n) :
    (length + 1) / n = length / n + 1 := by
  have hmul : length + 1 = n * (length / n + 1) := by
    have := Nat.div_add_mod length n
    rw [Nat.mul_succ]
    omega
  exact Nat.div_eq_of_eq_mul_right hpos hmul

theorem succ_div_of_partial {n length : Nat} (hpos : 0 < n) (hpart : length % n + 1 ≠ n) :
    (length + 1) / n = length / n := by
  have hmod := Nat.mod_lt length hpos
  have hlength : length + 1 = (length % n + 1) + n * (length / n) := by
    have := Nat.div_add_mod length n
    omega
  have hdiv : (length + 1) / n = ((length % n + 1) + n * (length / n)) / n := congrArg (· / n) hlength
  rw [hdiv, Nat.add_mul_div_left _ _ hpos, Nat.div_eq_of_lt (by omega), Nat.zero_add]

/-- R126, R123: absorption from an empty residue compresses every whole block in order and keeps the rest. -/
theorem absorbBytes_eq (alg : Algorithm) (chaining : Vector Byte 64) (bytes : List Byte) :
    absorbBytes alg { residue := [], chaining := chaining } bytes =
      { residue := afterBlocks alg.blockSize bytes, chaining := compressAll alg chaining bytes } := by
  have hpos := Algorithm.blockSize_pos alg
  induction bytes using List.reverseRecOn with
  | nil => simp [absorbBytes, afterBlocks, compressAll, wholeBlocks]
  | append_singleton bytes b ih =>
    have hlength : (afterBlocks alg.blockSize bytes ++ [b]).length = bytes.length % alg.blockSize + 1 := by
      rw [List.length_append, length_afterBlocks, List.length_singleton]
    rw [absorbBytes_append, ih]
    change absorbByte alg _ b = _
    simp only [absorbByte, hlength]
    split
    next hfull =>
      have hnext : (bytes.length + 1) / alg.blockSize = bytes.length / alg.blockSize + 1 :=
        succ_div_of_full hpos hfull
      have hempty : afterBlocks alg.blockSize (bytes ++ [b]) = [] := by
        refine List.eq_nil_of_length_eq_zero ?_
        rw [length_afterBlocks, List.length_append, List.length_singleton, Nat.mod_eq_sub_mul_div, hnext]
        have := Nat.div_add_mod bytes.length alg.blockSize
        rw [Nat.mul_succ]
        omega
      rw [hempty, compressAll, compressAll, wholeBlocks_append_full hnext hfull, List.foldl_append]
      rfl
    next hpart =>
      have hsame : (bytes.length + 1) / alg.blockSize = bytes.length / alg.blockSize :=
        succ_div_of_partial hpos hpart
      rw [compressAll, compressAll, wholeBlocks_append_same hsame, afterBlocks_append_singleton hsame]

/-- Settles O50. -/
theorem digestIsThatOfPaddedMessage : Obligations.DigestIsThatOfPaddedMessage := by
  refine ⟨fun alg chaining pieces => ?_, fun alg pieces => ?_⟩
  · intro x
    have hx : x = _ := (foldl_absorbBytes alg _ pieces).trans (absorbBytes_eq alg chaining pieces.flatten)
    rw [hx]
    exact ⟨rfl, rfl, length_afterBlocks _ _⟩
  · rw [finalChaining, foldl_absorbBytes, ← absorbBytes_append, absorbBytes_eq]
    rfl

end Sys2Proof.Machine
end

section
/-! PROOF. The Context Transfer Unit: the start of a transfer (R143, R146), its bursts (R147, R150) and its ends (R147
to R152). -/

namespace Sys2Proof.Machine

/-! ### The start (R143, R144, R146) -/

/-- R143: outside RUN, with an active transfer or with an empty queue nothing starts. -/
theorem exec_transferStart_of_none {s : State} (h : s.ec.engine ≠ .run ∨ s.ctu.active ≠ none ∨ s.ctu.queue = []) :
    exec .transferStart s = .next s := by
  change execTransferStart s = _
  unfold execTransferStart
  split
  next hrun ha hq => simp_all
  next => rfl

/-- R143, R144: the transfer `tr` started, before its request. -/
def State.transferStarted (s : State) (tr : Transfer) (rest : List Transfer) : State :=
  { s.setSlot tr.slot .active with
    ctu := { queue := rest, active := some { transfer := tr, burst := 1, retryCount := 0 },
             record := if tr.kind = .exporting then contextRecord (s.stream tr.stream) else s.ctu.record } }

theorem exec_transferStart {s : State} {tr : Transfer} {rest : List Transfer} (hrun : s.ec.engine = .run)
    (ha : s.ctu.active = none) (hq : s.ctu.queue = tr :: rest) :
    exec .transferStart s = .next (requestCtu (s.transferStarted tr rest)) := by
  change execTransferStart s = _
  simp only [execTransferStart, hrun, ha, hq]
  cases hk : tr.kind <;> simp [State.transferStarted, hk]

/-- R109, R146: the CTU's request, at the idle bus master with the Fetch Engine not waiting, is granted. -/
theorem requestCtu_granted {s : State} {a : ActiveTransfer} (hrun : s.ec.engine = .run) (hb : s.bma.burst = none)
    (hf : s.bma.fetchWaiting = false) (ha : s.ctu.active = some a) : requestCtu s = s.ctuGranted a :=
  arbitrate_ctu (s := { s with bma.ctuWaiting := true }) hrun hb hf rfl ha

/-- R146, R150: the burst of an EXPORT and of an IMPORT. -/
theorem transferBurst_eq (s : State) (a : ActiveTransfer) :
    transferBurst s a =
      { requester := .ctu
        direction := if a.transfer.kind = .exporting then .write else .read
        address := s.hostAddress a.transfer.slot + BitVec.ofNat 32 (64 * (a.burst - 1))
        length := 64
        data := if a.transfer.kind = .exporting then (s.ctu.record.toList.drop (64 * (a.burst - 1))).take 64
                else [] } := by
  cases hk : a.transfer.kind <;> simp [transferBurst, hk, recordBurstAddress, recordBurstBytes]

/-- Settles O51. -/
theorem transferStartBuildsRecord : Obligations.TransferStartBuildsRecord := by
  intro s
  refine ⟨exec_transferStart_of_none, fun n h kind rest hrun ha hq => ?_⟩
  intro record started
  have hstarted : s.transferStarted ⟨n, h, kind⟩ rest = started := rfl
  rw [exec_transferStart hrun ha hq, hstarted]
  refine ⟨fun hb hf => ?_, fun hb => congrArg Host.Outcome.next (requestCtu_busy hb)⟩
  rw [requestCtu_granted (s := started) hrun hb hf rfl, State.ctuGranted, transferBurst_eq]
  simp only [Nat.sub_self, Nat.mul_zero, List.drop_zero, BitVec.add_zero]
  rfl

/-! ### Bursts 1 to 3 (R147, R150) -/

theorem arbitrate_record (s : State) : (arbitrate s).ctu.record = s.ctu.record := by rw [arbitrate_frame]

/-- R147: the transfer moved on to its next burst, the answered one still on the bus. -/
def State.transferMoved (s : State) (a : ActiveTransfer) (lanes : Vector Byte 64) : State :=
  { landTransfer a lanes s with ctu.active := some { a with burst := a.burst + 1, retryCount := 0 } }

theorem advanceTransfer_of_lt {a : ActiveTransfer} (ha : a.burst < 4) (lanes : Vector Byte 64) (s : State) :
    advanceTransfer a lanes s = requestCtu (endBurst (s.transferMoved a lanes)) := by
  rw [advanceTransfer_eq, if_pos ha]; rfl

theorem transferMoved_eq (s : State) (a : ActiveTransfer) (lanes : Vector Byte 64) :
    s.transferMoved a lanes = { s with ctu := { s.ctu with
      active := some { a with burst := a.burst + 1, retryCount := 0 }
      record := (landTransfer a lanes s).ctu.record } } := by
  rw [State.transferMoved, landTransfer_frame]

theorem advanceTransfer_record {a : ActiveTransfer} (ha : a.burst < 4) (lanes : Vector Byte 64) (s : State) :
    (advanceTransfer a lanes s).ctu.record = (landTransfer a lanes s).ctu.record := by
  rw [advanceTransfer_of_lt ha, requestCtu, arbitrate_record, endBurst, arbitrate_record]; rfl

theorem landTransfer_record_exporting {a : ActiveTransfer} (hk : a.transfer.kind = .exporting) (lanes : Vector Byte 64)
    (s : State) : (landTransfer a lanes s).ctu.record = s.ctu.record := by
  simp only [landTransfer, hk]

theorem landTransfer_record_importing {a : ActiveTransfer} (hk : a.transfer.kind = .importing) (lanes : Vector Byte 64)
    (s : State) : (landTransfer a lanes s).ctu.record = landBurst s.ctu.record a.burst lanes := by
  simp only [landTransfer, hk]

/-- R147, R109: with no request waiting the transfer's next burst is on the bus at once. -/
theorem advanceTransfer_quiet {s : State} {a : ActiveTransfer} (hrun : s.ec.engine = .run) (ha : a.burst < 4)
    (hf : s.bma.fetchWaiting = false) (hc : s.bma.ctuWaiting = false) (lanes : Vector Byte 64) :
    advanceTransfer a lanes s = ({ s.transferMoved a lanes with bma.burst := none } : State).ctuGranted
      { a with burst := a.burst + 1, retryCount := 0 } := by
  have hbma : (s.transferMoved a lanes).bma = s.bma := by rw [transferMoved_eq]
  have hec : (s.transferMoved a lanes).ec = s.ec := by rw [transferMoved_eq]
  rw [advanceTransfer_of_lt ha, endBurst_of_none (by rw [hbma, hf]) (by rw [hbma, hc])]
  exact requestCtu_granted (s := { s.transferMoved a lanes with bma.burst := none }) (by rw [← hrun, ← hec]) rfl
    (by rw [← hf, ← hbma]) rfl

/-- R146, R150: the next burst, 64 host addresses on. -/
theorem advanceTransfer_burst {s : State} {a : ActiveTransfer} (hrun : s.ec.engine = .run) (ha : a.burst < 4)
    (hf : s.bma.fetchWaiting = false) (hc : s.bma.ctuWaiting = false) (lanes : Vector Byte 64) :
    (advanceTransfer a lanes s).bma.burst = some
      { requester := .ctu
        direction := if a.transfer.kind = .exporting then .write else .read
        address := s.hostAddress a.transfer.slot + BitVec.ofNat 32 (64 * a.burst)
        length := 64
        data := if a.transfer.kind = .exporting then
            ((landTransfer a lanes s).ctu.record.toList.drop (64 * a.burst)).take 64
          else [] } := by
  rw [advanceTransfer_quiet hrun ha hf hc, transferMoved_eq]
  exact congrArg some (transferBurst_eq _ _)

/-- R150: the place of a burst's bytes in the record buffer. -/
theorem getElem_landBurst (record : Vector Byte 256) {k : Nat} (hk : 1 ≤ k) (lanes : Vector Byte 64) (j : Fin 256) :
    (landBurst record k lanes)[j] =
      if 64 * (k - 1) ≤ j.val ∧ j.val < 64 * k then lanes.toList.getD (j.val - 64 * (k - 1)) 0 else record[j] := by
  have hbound : 64 * (k - 1) + 64 = 64 * k := by omega
  simp [landBurst, hbound]

/-- R109: with the Fetch Engine's request waiting, that is granted and the CTU waits. -/
theorem advanceTransfer_fetchWaiting {s : State} {a : ActiveTransfer} {item : ActiveItem} (hrun : s.ec.engine = .run)
    (ha : a.burst < 4) (hf : s.bma.fetchWaiting = true) (hc : s.bma.ctuWaiting = false)
    (hactive : s.ap.active = some item) (lanes : Vector Byte 64) :
    advanceTransfer a lanes s =
      { (s.transferMoved a lanes).fetchGranted item with
        bma := { ((s.transferMoved a lanes).fetchGranted item).bma with ctuWaiting := true } } := by
  have hmoved := transferMoved_eq s a lanes
  rw [advanceTransfer_of_lt ha, endBurst_of_fetchWaiting (item := item) (by rw [hmoved, hrun]) (by rw [hmoved, hf])
    (by rw [hmoved, hc]) (by rw [hmoved, hactive])]
  exact requestCtu_busy (by simp [State.fetchGranted])

/-- Settles O52. -/
theorem transferAdvancesBurstByBurst : Obligations.TransferAdvancesBurstByBurst := by
  intro s b a lanes hrun hburst hb hactive hone ha hc
  have hrecord := advanceTransfer_record ha lanes s
  refine ⟨advanceTransfer a lanes s,
    (exec_burstOk hburst lanes).trans (congrArg _ (answerOk_ctu (unwanted_ctu hrun hb) hb hactive lanes)), ?_⟩
  rw [hrecord]
  refine ⟨fun hf => ?_, fun item hf hitem => ?_, fun hk => ⟨?_, fun hf => ?_⟩, fun hk => ⟨fun j => ?_, fun hf => ?_⟩⟩
  · rw [advanceTransfer_quiet hrun ha hf hc, transferMoved_eq]
    simp only [State.ctuGranted, hc]
  · rw [advanceTransfer_fetchWaiting hrun ha hf hc hitem, transferMoved_eq]
  · exact landTransfer_record_exporting hk lanes s
  · rw [advanceTransfer_burst hrun ha hf hc, landTransfer_record_exporting hk]
    simp [hk]
  · rw [landTransfer_record_importing hk]
    exact getElem_landBurst _ hone lanes j
  · rw [advanceTransfer_burst hrun ha hf hc]
    simp [hk]

end Sys2Proof.Machine
end

section
/-! PROOF. The ends of a transfer (R147 to R152), each with the bus master freed (R109). -/

namespace Sys2Proof.Machine

/-! ### The end of a burst is not seen by the end of a transfer -/

/-- What the end of a transfer changes: slot states, the Stream Table, the Ready Queue and the CTU. -/
def State.settled (s : State) (rss : SlotStore) (ou : OrderingUnit) (queue : List ReadyItem) (ctu : TransferUnit) :
    State :=
  { s with rss := rss, ou := ou, ap.readyQueue := queue, ctu := ctu }

/-- R109: a burst that ends with no request of the CTU waiting can do no more than grant the Fetch Engine's. -/
theorem endBurst_of_ctuQuiet {s : State} (hrun : s.ec.engine = .run) (hc : s.bma.ctuWaiting = false) :
    endBurst s =
      if s.bma.fetchWaiting = true then s.ap.active.elim { s with bma.burst := none } s.fetchGranted
      else { s with bma.burst := none } := by
  rw [endBurst_eq s hrun, State.busFreed]
  simp [hc]

theorem endBurst_settled {s : State} (hrun : s.ec.engine = .run) (hc : s.bma.ctuWaiting = false) (rss : SlotStore)
    (ou : OrderingUnit) (queue : List ReadyItem) (ctu : TransferUnit) :
    (endBurst s).settled rss ou queue ctu = endBurst (s.settled rss ou queue ctu) := by
  rw [endBurst_of_ctuQuiet hrun hc, endBurst_of_ctuQuiet (s := s.settled rss ou queue ctu) hrun hc]
  change _ = if s.bma.fetchWaiting = true then s.ap.active.elim _ _ else _
  split
  · cases s.ap.active with
    | none => rfl
    | some item => cases hn : s.ap.nextFill <;> simp [State.settled, State.fetchGranted, hn, AbsorbPath.setBuffer]
  · rfl

theorem endBurst_ctu {s : State} (hrun : s.ec.engine = .run) (hc : s.bma.ctuWaiting = false) :
    (endBurst s).ctu = s.ctu := by
  rw [endBurst_of_ctuQuiet hrun hc]
  split
  · cases s.ap.active <;> rfl
  · rfl

theorem endBurst_readyQueue (s : State) : (endBurst s).ap.readyQueue = s.ap.readyQueue := by
  rw [endBurst, arbitrate_readyQueue]

theorem endBurst_stream (s : State) : (endBurst s).stream = s.stream := stream_congr (by rw [endBurst_ou])

/-- The transfer over, its stream's context `c`. -/
def State.transferEnded (s : State) (h : Handle) (c : StreamContext) : State :=
  { s.setStream h c with ctu.active := none }

theorem transferEnded_endBurst {s : State} (hrun : s.ec.engine = .run) (hc : s.bma.ctuWaiting = false) (h : Handle)
    (c : StreamContext) : (endBurst s).transferEnded h c = endBurst (s.transferEnded h c) := by
  have hsettled : (endBurst s).transferEnded h c = (endBurst s).settled (endBurst s).rss
      { (endBurst s).ou with streams := (endBurst s).ou.streams.set h c } (endBurst s).ap.readyQueue
      { (endBurst s).ctu with active := none } := rfl
  rw [hsettled, endBurst_rss, endBurst_ou, endBurst_readyQueue, endBurst_ctu hrun hc, endBurst_settled hrun hc]
  rfl

theorem refOf_transferEnded (s : State) (h : Handle) (c : StreamContext) :
    (s.transferEnded h c).refOf h =
      { state := c.state, handle := h, generation := c.generation, absorbed := c.absorbed } :=
  refOf_setStream s h c

/-! ### The ends -/

section
variable {s : State} (tr : Transfer)

theorem finishExport_eq (hrun : s.ec.engine = .run) (hc : s.bma.ctuWaiting = false) :
    finishExport tr (endBurst s) =
      (s.transferEnded tr.stream (freeContext (s.stream tr.stream).generation)).busFreed.afterEndings
        [recordOf s tr.slot .ok (some (s.freedRef tr.stream))] := by
  have hfreed : freeStream tr.stream { endBurst s with ctu.active := none } =
      (endBurst s).transferEnded tr.stream (freeContext ((endBurst s).stream tr.stream).generation) := rfl
  have href : (endBurst s).freedRef tr.stream = s.freedRef tr.stream := by
    rw [State.freedRef, State.refOf, endBurst_stream]; rfl
  rw [finishExport, hfreed, endBurst_stream, transferEnded_endBurst hrun hc, href]
  rw [complete_congr (s := s) (by rw [endBurst_rss]; rfl), endBurst_eq (s.transferEnded _ _) hrun]

theorem failImport_eq (hrun : s.ec.engine = .run) (hc : s.bma.ctuWaiting = false) (status : Status) :
    failImport tr status (endBurst s) =
      (s.transferEnded tr.stream (freeContext (s.stream tr.stream).generation)).busFreed.afterEndings
        [recordOf s tr.slot status (some { state := .free, handle := tr.stream,
                                           generation := (s.stream tr.stream).generation, absorbed := 0 })] := by
  have hfreed : freeStream tr.stream { endBurst s with ctu.active := none } =
      (endBurst s).transferEnded tr.stream (freeContext ((endBurst s).stream tr.stream).generation) := rfl
  simp only [failImport, hfreed, refOf_transferEnded]
  rw [endBurst_stream, transferEnded_endBurst hrun hc]
  rw [complete_congr (s := s) (by rw [endBurst_rss]; rfl), endBurst_eq (s.transferEnded _ _) hrun]
  rfl

theorem failTransfer_exporting (hk : tr.kind = .exporting) (hrun : s.ec.engine = .run) (hc : s.bma.ctuWaiting = false)
    (failure : BusFailure) :
    failTransfer tr failure (endBurst s) =
      (s.transferEnded tr.stream { s.stream tr.stream with state := .opened }).busFreed.afterEndings
        [recordOf s tr.slot failure.status (some (s.refAs tr.stream .opened))] := by
  have hopened :
      { (endBurst s).updateStream tr.stream (fun c => { c with state := .opened }) with ctu.active := none } =
      (endBurst s).transferEnded tr.stream { (endBurst s).stream tr.stream with state := .opened } := rfl
  simp only [failTransfer, hk, hopened, refOf_transferEnded]
  rw [endBurst_stream, transferEnded_endBurst hrun hc]
  rw [complete_congr (s := s) (by rw [endBurst_rss]; rfl), endBurst_eq (s.transferEnded _ _) hrun]
  rfl

theorem failTransfer_importing (hk : tr.kind = .importing) (failure : BusFailure) :
    failTransfer tr failure s = failImport tr failure.status s := by
  simp only [failTransfer, hk]

theorem finishImport_invalid (hv : recordValid s.ctu.record = false) :
    finishImport tr s = failImport tr .badContext s := by
  simp [finishImport, hv]

/-- R152: the context that the record in the buffer makes of the stream `h`. -/
def State.imported (s : State) (h : Handle) : StreamContext := importedContext s.ctu.record (s.stream h).generation

theorem imported_state (s : State) (h : Handle) :
    (s.imported h).state = if (s.imported h).declaredEnd = some (s.imported h).absorbed then .ending else .opened := rfl

theorem finishImport_opened (hv : recordValid s.ctu.record = true)
    (hopen : (s.imported tr.stream).declaredEnd ≠ some (s.imported tr.stream).absorbed) :
    finishImport tr s =
      complete tr.slot .ok (some ((s.transferEnded tr.stream (s.imported tr.stream)).refOf tr.stream))
        (s.transferEnded tr.stream (s.imported tr.stream)) := by
  have hstate : (s.imported tr.stream).state ≠ .ending := by rw [imported_state, if_neg hopen]; decide
  exact (if_pos hv).trans (if_neg hstate)

theorem finishImport_ending (hv : recordValid s.ctu.record = true)
    (hend : (s.imported tr.stream).declaredEnd = some (s.imported tr.stream).absorbed) :
    finishImport tr s =
      (s.transferEnded tr.stream (s.imported tr.stream)).settled
        { s.rss with states := s.rss.states.set tr.slot .ready }
        { s.ou with streams := s.ou.streams.set tr.stream (s.imported tr.stream) }
        (s.ap.readyQueue ++ [{ slot := tr.slot, stream := tr.stream, kind := .finalizeOnly }])
        { s.ctu with active := none } := by
  have hstate : (s.imported tr.stream).state = .ending := by rw [imported_state, if_pos hend]
  exact (if_pos hv).trans (if_pos hstate)

/-- R152: an import that leaves its stream OPEN ends OK. -/
theorem finishImport_opened_endBurst (hrun : s.ec.engine = .run) (hc : s.bma.ctuWaiting = false)
    (hv : recordValid s.ctu.record = true)
    (hopen : (s.imported tr.stream).declaredEnd ≠ some (s.imported tr.stream).absorbed) :
    finishImport tr (endBurst s) =
      (s.transferEnded tr.stream (s.imported tr.stream)).busFreed.afterEndings
        [recordOf s tr.slot .ok (some ⟨.opened, tr.stream, (s.stream tr.stream).generation,
          (s.imported tr.stream).absorbed⟩)] := by
  have hsame : (endBurst s).imported tr.stream = s.imported tr.stream := by
    rw [State.imported, endBurst_stream, endBurst_ctu hrun hc]; rfl
  have hstate : (s.imported tr.stream).state = .opened := by rw [imported_state, if_neg hopen]
  rw [finishImport_opened tr (by rwa [endBurst_ctu hrun hc]) (by rwa [hsame]), hsame, refOf_transferEnded, hstate,
    transferEnded_endBurst hrun hc]
  rw [complete_congr (s := s) (by rw [endBurst_rss]; rfl), endBurst_eq (s.transferEnded _ _) hrun]
  rfl

/-- R152, R22: an import at its declared end leaves its stream ENDING, with a finalize-only item. -/
theorem finishImport_ending_endBurst (hrun : s.ec.engine = .run) (hc : s.bma.ctuWaiting = false)
    (hv : recordValid s.ctu.record = true)
    (hend : (s.imported tr.stream).declaredEnd = some (s.imported tr.stream).absorbed) :
    finishImport tr (endBurst s) = State.busFreed (s.settled
      { s.rss with states := s.rss.states.set tr.slot .ready }
      { s.ou with streams := s.ou.streams.set tr.stream (s.imported tr.stream) }
      (s.ap.readyQueue ++ [{ slot := tr.slot, stream := tr.stream, kind := .finalizeOnly }])
      { s.ctu with active := none }) := by
  have hsame : (endBurst s).imported tr.stream = s.imported tr.stream := by
    rw [State.imported, endBurst_stream, endBurst_ctu hrun hc]; rfl
  rw [finishImport_ending tr (by rwa [endBurst_ctu hrun hc]) (by rwa [hsame]), hsame, endBurst_rss, endBurst_ou,
    endBurst_readyQueue, endBurst_ctu hrun hc]
  exact (endBurst_settled hrun hc _ _ _ _).trans (endBurst_eq (s.settled _ _ _ _) hrun)

end

/-! ### The fourth burst (R148, R151, R152) -/

theorem advanceTransfer_exporting {a : ActiveTransfer} (ha : a.burst = 4) (hk : a.transfer.kind = .exporting)
    (lanes : Vector Byte 64) (s : State) : advanceTransfer a lanes s = finishExport a.transfer (endBurst s) := by
  rw [advanceTransfer_eq, if_neg (by omega)]
  simp only [hk, landTransfer]

/-- R150: the record buffer with `record` in it. -/
def State.recordRead (s : State) (record : Vector Byte 256) : State := { s with ctu.record := record }

theorem advanceTransfer_importing {a : ActiveTransfer} (ha : a.burst = 4) (hk : a.transfer.kind = .importing)
    (lanes : Vector Byte 64) (s : State) :
    advanceTransfer a lanes s =
      finishImport a.transfer (endBurst (s.recordRead (landBurst s.ctu.record 4 lanes))) := by
  rw [advanceTransfer_eq, if_neg (by omega)]
  simp only [hk, landTransfer, ha, State.recordRead]

/-- Settles O53. -/
theorem fourthBurstEndsTheTransfer : Obligations.FourthBurstEndsTheTransfer := by
  intro s b a lanes hrun hburst hb hactive ha hc n h c record imported
  have hexec : exec (.burstOk lanes) s = .next (advanceTransfer a lanes s) :=
    (exec_burstOk hburst lanes).trans (congrArg _ (answerOk_ctu (unwanted_ctu hrun hb) hb hactive lanes))
  rw [hexec]
  refine ⟨fun hk => ?_, fun hk hv => ?_, fun hk hv => ⟨fun hopen => ?_, fun hend => ?_⟩⟩
  · rw [advanceTransfer_exporting ha hk, finishExport_eq _ hrun hc]
    rfl
  all_goals
    rw [advanceTransfer_importing ha hk]
    change Host.Outcome.next (finishImport a.transfer (endBurst (s.recordRead record))) = _
    clear_value record
    have hrecord : (endBurst (s.recordRead record)).ctu.record = record := by
      rw [endBurst_ctu (s := s.recordRead record) hrun hc]; rfl
  · rw [finishImport_invalid _ (by rw [hrecord]; exact hv), failImport_eq (s := s.recordRead record) _ hrun hc]
    rfl
  · rw [finishImport_opened_endBurst (s := s.recordRead record) _ hrun hc hv hopen]
    rfl
  · rw [finishImport_ending_endBurst (s := s.recordRead record) _ hrun hc hv hend]
    rfl

/-! ### The failure of a burst (R147, R149, R150) -/

/-- R147: each of the three commands that end a transfer in failure; a retry count that the end forgets may change. -/
theorem exec_transfer_failure {cmd : Instr} {status : Status} {s : State} {b : Burst} {a : ActiveTransfer}
    (hrun : s.ec.engine = .run) (hburst : s.bma.burst = some b) (hb : b.requester = .ctu)
    (hactive : s.ctu.active = some a)
    (hcmd : cmd = .burstError ∧ status = .busError ∨
      (cmd = .retryLimit ∨ cmd = .burstRetry) ∧ status = .retryLimit ∧ a.retryCount = 15) :
    ∃ failure active, status = BusFailure.status failure ∧
      exec cmd s = .next (failTransfer a.transfer failure (endBurst { s with ctu.active := active })) := by
  obtain ⟨rfl, rfl⟩ | ⟨hcmd, rfl, hcount⟩ := hcmd
  · exact ⟨.busError, s.ctu.active, rfl,
      (exec_burstError hburst).trans (congrArg _ (answerFailure_ctu (unwanted_ctu hrun hb) hb hactive _))⟩
  · exact ⟨.retryLimit, _, rfl, exec_retry_limit_ctu hrun hcmd hburst hb hactive hcount⟩

/-- Settles O54. -/
theorem transferFailureEndsTheTransfer : Obligations.TransferFailureEndsTheTransfer := by
  intro cmd status s b a hrun hburst hb hactive hc hcmd n h c
  obtain ⟨failure, active, rfl, hexec⟩ := exec_transfer_failure hrun hburst hb hactive hcmd
  rw [hexec]
  refine ⟨fun hk => ?_, fun hk => ?_⟩
  · rw [failTransfer_exporting (s := { s with ctu.active := active }) _ hk hrun hc]
    rfl
  · rw [failTransfer_importing _ hk, failImport_eq (s := { s with ctu.active := active }) _ hrun hc]
    rfl

end Sys2Proof.Machine
end

section
/-! PROOF. The context record (R198): its words and bytes, the check word (R199), and the conditions of R151 written on
the words. -/

namespace Sys2Proof.Machine

/-! ### Words and bytes of a record buffer (R195) -/

theorem byteOf_recordWord (r : Vector Byte 256) (k : Nat) (i : Fin 4) :
    byteOf (recordWord r k) i.val = recordByte r (4 * k + i.val) :=
  byteOf_packWord (fun j => recordByte r (4 * k + j)) i

/-- R195: a word is packed from its four bytes. -/
theorem packWord_byteOf (w : Word) : packWord (byteOf w 0) (byteOf w 1) (byteOf w 2) (byteOf w 3) = w := by
  refine BitVec.eq_of_getLsbD_eq fun i hi => ?_
  simp only [packWord, byteOf, BitVec.getLsbD_append, BitVec.getLsbD_extractLsb']
  split
  next h => simp [h]
  next h0 =>
    split
    next h => simp [h, show 8 + (i - 8) = i by omega]
    next h1 =>
      split
      next h => simp [h, show 16 + (i - 8 - 8) = i by omega]
      next h2 => simp [show 24 + (i - 8 - 8 - 8) = i by omega, show i - 8 - 8 - 8 < 8 by omega]

section
variable (b0 b1 b2 b3 : Byte)

/-- R195: bits 31:25 of a word are the upper seven bits of its last byte. -/
theorem packWord_upperSeven : (packWord b0 b1 b2 b3).extractLsb' 25 7 = b3.extractLsb' 1 7 :=
  (extractLsb'_append_above (b3 ++ b2 ++ b1) b0 17 7).trans
    ((extractLsb'_append_above (b3 ++ b2) b1 9 7).trans (extractLsb'_append_above b3 b2 1 7))

theorem packWord_bit24 : (packWord b0 b1 b2 b3).getLsbD 24 = b3.getLsbD 0 :=
  (getLsbD_append_above (b3 ++ b2 ++ b1) b0 16).trans
    ((getLsbD_append_above (b3 ++ b2) b1 8).trans (getLsbD_append_above b3 b2 0))

theorem packWord_lowerHalf : (packWord b0 b1 b2 b3).extractLsb' 0 16 = b1 ++ b0 := by
  refine BitVec.eq_of_getLsbD_eq fun i hi => ?_
  simp only [packWord, BitVec.getLsbD_append, BitVec.getLsbD_extractLsb', hi, decide_true, Bool.true_and, Nat.zero_add]
  split
  · rfl
  · rw [if_pos (show i - 8 < 8 by omega)]

end

/-- R198: the upper seven bits of a byte are 0. -/
theorem and_upperSeven_eq_zero_iff (b : Byte) : b &&& 0xFE#8 = 0 ↔ b.extractLsb' 1 7 = 0 := by
  revert b
  decide

/-- R195: a position below 2^64 is what its two words spell. -/
theorem wide_lowerWord_upperWord {n : Nat} (hn : n < 2 ^ 64) : wide (lowerWord n) (upperWord n) = n := by
  simp only [wide, lowerWord, upperWord, BitVec.toNat_ofNat]
  omega

/-! ### The check word (R199) -/

/-- R199: the XOR of words, from a start. -/
def xorWords (w : Nat → Word) (start : Word) (ks : List Nat) : Word := ks.foldl (fun acc k => acc ^^^ w k) start

theorem checkWord_eq (w : Nat → Word) : checkWord w = ~~~ xorWords w 0 (List.range 63) := rfl

theorem xorWords_congr {v w : Nat → Word} {ks : List Nat} (h : ∀ k ∈ ks, v k = w k) (start : Word) :
    xorWords v start ks = xorWords w start ks := by
  induction ks generalizing start with
  | nil => rfl
  | cons k ks ih =>
    change xorWords v (start ^^^ v k) ks = xorWords w (start ^^^ w k) ks
    rw [h k (by simp), ih fun j hj => h j (by simp [hj])]

theorem xorWords_injective {w : Nat → Word} {ks : List Nat} {x y : Word} (h : xorWords w x ks = xorWords w y ks) :
    x = y := by
  induction ks generalizing x y with
  | nil => exact h
  | cons k ks ih => exact (BitVec.xor_left_inj (w k)).1 (ih h)

theorem xorWords_append_cons (w : Nat → Word) (start : Word) (before after : List Nat) (k : Nat) :
    xorWords w start (before ++ k :: after) = xorWords w (xorWords w start before ^^^ w k) after := by
  rw [xorWords, List.foldl_append]; rfl

theorem checkWord_congr {v w : Nat → Word} (h : ∀ k, k < 63 → v k = w k) : checkWord v = checkWord w := by
  rw [checkWord_eq, checkWord_eq, xorWords_congr fun k hk => h k (List.mem_range.1 hk)]

/-- R199: a change of one word changes the check word. -/
theorem checkWord_ne_of_change {v w : Nat → Word} {k : Nat} (hk : k < 63) (hne : v k ≠ w k)
    (hsame : ∀ j, j < 63 → j ≠ k → v j = w j) : checkWord v ≠ checkWord w := by
  intro heq
  obtain ⟨before, after, hsplit⟩ := List.append_of_mem (List.mem_range.2 hk)
  have hnodup : (before ++ k :: after).Nodup := hsplit ▸ List.nodup_range
  have hlt : ∀ j ∈ before ++ k :: after, j < 63 := fun j hj => List.mem_range.1 (hsplit ▸ hj)
  have hbefore : ∀ j ∈ before, v j = w j := fun j hj => hsame j (hlt j (by simp [hj])) fun hjk => by
    subst hjk; exact (List.nodup_append.1 hnodup).2.2 j hj j (by simp) rfl
  have hafter : ∀ j ∈ after, v j = w j := fun j hj => hsame j (hlt j (by simp [hj])) fun hjk => by
    subst hjk; exact (List.nodup_cons.1 (List.nodup_append.1 hnodup).2.1).1 hj
  have hxor : xorWords v 0 (before ++ k :: after) = xorWords w 0 (before ++ k :: after) := by
    rw [← hsplit]; exact BitVec.not_inj.1 heq
  rw [xorWords_append_cons, xorWords_append_cons, xorWords_congr hbefore, xorWords_congr hafter] at hxor
  exact hne ((BitVec.xor_right_inj _).1 (xorWords_injective hxor))

end Sys2Proof.Machine
end

section
/-! PROOF. The conditions of a valid context record (R151), the context it makes (R152), and the record that an EXPORT
builds (R144), read back field by field. -/

namespace Sys2Proof.Machine

/-! ### The fields of a record on its words (R198) -/

section
variable (r : Vector Byte 256)

theorem recordWord_algorithm : (recordWord r 1).extractLsb' 0 8 = recordByte r 4 := byteOf_recordWord r 1 0

theorem recordWord_holdLimit : (recordWord r 1).extractLsb' 8 8 = recordByte r 5 := byteOf_recordWord r 1 1

theorem recordWord_residueLength : (recordWord r 1).extractLsb' 16 8 = recordByte r 6 := byteOf_recordWord r 1 2

theorem recordWord_endPresent : (recordWord r 1).getLsbD 24 = recordEndPresent r := packWord_bit24 _ _ _ _

theorem recordWord_reserved : (recordWord r 1).extractLsb' 25 7 = 0 ↔ recordByte r 7 &&& 0xFE#8 = 0 := by
  rw [and_upperSeven_eq_zero_iff]
  exact iff_of_eq (congrArg (· = 0) (packWord_upperSeven _ _ _ _))

theorem recordWord_gapTimeout : (recordWord r 2).extractLsb' 0 16 = recordGapTimeout r := packWord_lowerHalf _ _ _ _

theorem recordWord_upper2 : (recordWord r 2).extractLsb' 24 8 = recordByte r 11 := byteOf_recordWord r 2 3

/-- R151: the conditions on the algorithm, the residue length and the unused chaining bytes. -/
def algorithmConditions : Prop :=
  ∃ alg, recordAlgorithm r = some alg ∧ recordResidueLength r < alg.blockSize ∧
    recordAbsorbed r % alg.blockSize = recordResidueLength r ∧
    (alg = .d512 ∨ ∀ k < 32, recordByte r (64 + k) = 0)

theorem algorithmConditions_iff :
    algorithmConditions r ↔
      recordByte r 4 = 1 ∧ recordResidueLength r ≤ 63 ∧ recordAbsorbed r % 64 = recordResidueLength r ∧
          (∀ k, 32 ≤ k → k ≤ 63 → recordByte r (32 + k) = 0) ∨
        recordByte r 4 = 2 ∧ recordResidueLength r ≤ 127 ∧ recordAbsorbed r % 128 = recordResidueLength r := by
  have hchaining : (∀ k < 32, recordByte r (64 + k) = 0) ↔ ∀ k, 32 ≤ k → k ≤ 63 → recordByte r (32 + k) = 0 := by
    refine ⟨fun h k hlo hhi => ?_, fun h k hk => ?_⟩
    · have := h (k - 32) (by omega)
      rwa [show 64 + (k - 32) = 32 + k by omega] at this
    · have := h (32 + k) (by omega) (by omega)
      rwa [show 32 + (32 + k) = 64 + k by omega] at this
  rw [← hchaining, algorithmConditions, recordAlgorithm]
  by_cases h1 : recordByte r 4 = 1#8
  · simp [h1, Algorithm.blockSize, Nat.lt_succ_iff]
  · by_cases h2 : recordByte r 4 = 2#8
    · simp [h2, Algorithm.blockSize, Nat.lt_succ_iff]
    · simp [h1, h2]

/-- R151: the conditions on the declared end. -/
def endConditions : Prop :=
  if recordEndPresent r = true then recordAbsorbed r ≤ recordDeclaredEnd r ∧ recordDeclaredEnd r ≤ Config.maxPosition
  else recordWord r 5 = 0 ∧ recordWord r 6 = 0

theorem endConditions_iff :
    endConditions r ↔
      (recordEndPresent r = true → recordAbsorbed r ≤ recordDeclaredEnd r ∧ recordDeclaredEnd r ≤ Config.maxPosition) ∧
      (recordEndPresent r = false → recordWord r 5 = 0 ∧ recordWord r 6 = 0) := by
  unfold endConditions
  cases recordEndPresent r <;> simp

/-- R151: a record is valid when every condition of the table holds. -/
theorem recordValid_iff :
    recordValid r = true ↔
      recordWord r 0 = Config.recordTag ∧ algorithmConditions r ∧ recordHoldLimit r ≤ Config.maxHoldLimit ∧
      recordAbsorbed r ≤ Config.maxPosition ∧
      recordByte r 7 &&& 0xFE#8 = 0 ∧ endConditions r ∧ recordByte r 11 = 0 ∧ recordWord r 7 = 0 ∧
      (∀ k < 7, recordWord r (56 + k) = 0) ∧
      (∀ i < 128, i < recordResidueLength r ∨ recordByte r (96 + i) = 0) ∧
      recordWord r 63 = checkWord (recordWord r) := by
  unfold recordValid algorithmConditions endConditions
  cases recordAlgorithm r with
  | none => simp
  | some alg =>
    cases recordEndPresent r <;> simp [and_assoc]

theorem reservedWords_iff :
    (∀ k < 7, recordWord r (56 + k) = 0) ↔ ∀ k, 56 ≤ k → k ≤ 62 → recordWord r k = 0 := by
  refine ⟨fun h k hlo hhi => ?_, fun h k hk => h (56 + k) (by omega) (by omega)⟩
  have := h (k - 56) (by omega)
  rwa [Nat.add_sub_cancel' hlo] at this

theorem reservedBytes_iff :
    (∀ i < 128, i < recordResidueLength r ∨ recordByte r (96 + i) = 0) ↔
      ∀ i, recordResidueLength r ≤ i → i ≤ 127 → recordByte r (96 + i) = 0 :=
  ⟨fun h i hlo hhi => (h i (by omega)).resolve_left (by omega),
    fun h i hi => (Nat.lt_or_ge i (recordResidueLength r)).imp_right fun hlo => h i hlo (by omega)⟩

/-- R151, R198: the conditions of a valid record, written on its words. -/
theorem recordValid_iff_words :
    recordValid r = true ↔
      recordWord r 0 = 0x57430001 ∧
      ((recordWord r 1).extractLsb' 0 8 = 1 ∧ ((recordWord r 1).extractLsb' 16 8).toNat ≤ 63 ∧
          recordAbsorbed r % 64 = ((recordWord r 1).extractLsb' 16 8).toNat ∧
          (∀ k, 32 ≤ k → k ≤ 63 → recordByte r (32 + k) = 0) ∨
        (recordWord r 1).extractLsb' 0 8 = 2 ∧ ((recordWord r 1).extractLsb' 16 8).toNat ≤ 127 ∧
          recordAbsorbed r % 128 = ((recordWord r 1).extractLsb' 16 8).toNat) ∧
      ((recordWord r 1).extractLsb' 8 8).toNat ≤ 16 ∧ recordAbsorbed r ≤ 2 ^ 48 ∧
      (recordWord r 1).extractLsb' 25 7 = 0 ∧
      ((recordWord r 1).getLsbD 24 = true → recordAbsorbed r ≤ recordDeclaredEnd r ∧ recordDeclaredEnd r ≤ 2 ^ 48) ∧
      ((recordWord r 1).getLsbD 24 = false → recordWord r 5 = 0 ∧ recordWord r 6 = 0) ∧
      recordWord r 7 = 0 ∧ (∀ k, 56 ≤ k → k ≤ 62 → recordWord r k = 0) ∧ (recordWord r 2).extractLsb' 24 8 = 0 ∧
      (∀ i, ((recordWord r 1).extractLsb' 16 8).toNat ≤ i → i ≤ 127 → recordByte r (96 + i) = 0) ∧
      recordWord r 63 = checkWord (recordWord r) := by
  rw [recordValid_iff, algorithmConditions_iff, endConditions_iff, reservedWords_iff, reservedBytes_iff,
    recordWord_algorithm, recordWord_holdLimit, recordWord_residueLength, recordWord_endPresent, recordWord_reserved,
    recordWord_upper2]
  constructor
  · rintro ⟨htag, halgorithm, hhold, habsorbed, hreserved, ⟨hend, hnoEnd⟩, hupper, hzero, hwords, hbytes, hcheck⟩
    exact ⟨htag, halgorithm, hhold, habsorbed, hreserved, hend, hnoEnd, hzero, hwords, hupper, hbytes, hcheck⟩
  · rintro ⟨htag, halgorithm, hhold, habsorbed, hreserved, hend, hnoEnd, hzero, hwords, hupper, hbytes, hcheck⟩
    exact ⟨htag, halgorithm, hhold, habsorbed, hreserved, ⟨hend, hnoEnd⟩, hupper, hzero, hwords, hbytes, hcheck⟩

/-! ### The context that a record makes (R152) -/

theorem length_recordResidue : (recordResidue r).length = recordResidueLength r := by
  simp [recordResidue]

theorem getD_recordResidue {i : Nat} (hi : i < recordResidueLength r) :
    (recordResidue r).getD i 0 = recordByte r (96 + i) := by
  simp [recordResidue, hi]

/-- R152: the declared end is the absorbed count. -/
theorem recordAtEnd_iff :
    ((if recordEndPresent r then some (recordDeclaredEnd r) else none) = some (recordAbsorbed r)) ↔
      recordEndPresent r = true ∧ recordDeclaredEnd r = recordAbsorbed r := by
  cases recordEndPresent r <;> simp

theorem importedContext_eq (generation : BitVec 8) :
    importedContext r generation =
      { freeContext generation with
        state := if recordEndPresent r = true ∧ recordDeclaredEnd r = recordAbsorbed r then .ending else .opened
        algorithm := recordAlgorithm r
        holdLimit := recordHoldLimit r
        gapTimeout := recordGapTimeout r
        declaredEnd := if recordEndPresent r = true then some (recordDeclaredEnd r) else none
        frontier := recordAbsorbed r
        absorbed := recordAbsorbed r
        residue := recordResidue r
        chaining := recordChaining r
        inFlight := if recordEndPresent r = true ∧ recordDeclaredEnd r = recordAbsorbed r then 1 else 0 } := by
  simp only [importedContext, recordAtEnd_iff, freeContext]

end

end Sys2Proof.Machine
end

section
/-! PROOF. The record that an EXPORT builds, read back (R144, R198), is valid and imports every field (R151, R152). -/

namespace Sys2Proof.Machine

section
variable (c : StreamContext)

theorem recordByte_ofFn (f : Fin 256 → Byte) {j : Nat} (hj : j < 256) : recordByte (Vector.ofFn f) j = f ⟨j, hj⟩ := by
  simp [recordByte, List.getD, hj]

theorem recordByte_eq_getElem (r : Vector Byte 256) {j : Nat} (hj : j < 256) : recordByte r j = r[j] := by
  simp [recordByte, List.getD, hj]

theorem recordWord_of_bytes {r : Vector Byte 256} {k : Nat} {w : Word}
    (h : ∀ i : Fin 4, recordByte r (4 * k + i.val) = byteOf w i.val) : recordWord r k = w := by
  change packWord (recordByte r (4 * k + (0 : Fin 4).val)) (recordByte r (4 * k + (1 : Fin 4).val))
    (recordByte r (4 * k + (2 : Fin 4).val)) (recordByte r (4 * k + (3 : Fin 4).val)) = w
  rw [h, h, h, h]
  exact packWord_byteOf w

theorem recordByte_contextRecord {j : Nat} (hj : j < 252) :
    recordByte (contextRecord c) j = byteOf (contextWord c (j / 4)) (j % 4) := by
  rw [contextRecord, recordByte_ofFn _ (Nat.lt_trans hj (by decide))]
  exact congrArg (byteOf · (j % 4)) (if_pos hj)

/-- R198: byte `i` of word `k` of an exported record. -/
theorem recordByte_contextRecord_word {k : Nat} (hk : k < 63) (i : Fin 4) :
    recordByte (contextRecord c) (4 * k + i.val) = byteOf (contextWord c k) i.val := by
  rw [recordByte_contextRecord c (by omega), show (4 * k + i.val) / 4 = k by omega,
    show (4 * k + i.val) % 4 = i.val by omega]

theorem recordWord_contextRecord {k : Nat} (hk : k < 63) : recordWord (contextRecord c) k = contextWord c k :=
  recordWord_of_bytes (recordByte_contextRecord_word c hk)

theorem recordWord_contextRecord_check : recordWord (contextRecord c) 63 = checkWord (contextWord c) := by
  refine recordWord_of_bytes fun i => ?_
  have hlast : ¬ 4 * 63 + i.val < 252 := by omega
  rw [contextRecord, recordByte_ofFn _ (show 4 * 63 + i.val < 256 by omega)]
  simp only [if_neg hlast]
  rw [show (4 * 63 + i.val) % 4 = i.val by omega]

/-! ### The fields of an exported record (R144, R198) -/

theorem contextRecord_algorithm :
    recordByte (contextRecord c) 4 = BitVec.ofNat 8 (c.algorithm.elim 0 Algorithm.code) :=
  (recordByte_contextRecord_word c (k := 1) (by decide) 0).trans (byteOf_packWord_0 ..)

theorem contextRecord_holdLimit : recordByte (contextRecord c) 5 = BitVec.ofNat 8 c.holdLimit :=
  (recordByte_contextRecord_word c (k := 1) (by decide) 1).trans (byteOf_packWord_1 ..)

theorem contextRecord_residueLength : recordByte (contextRecord c) 6 = BitVec.ofNat 8 c.residue.length :=
  (recordByte_contextRecord_word c (k := 1) (by decide) 2).trans (byteOf_packWord_2 ..)

theorem contextRecord_endFlag : recordByte (contextRecord c) 7 = if c.declaredEnd.isSome then 1 else 0 :=
  (recordByte_contextRecord_word c (k := 1) (by decide) 3).trans (byteOf_packWord_3 ..)

theorem contextRecord_gapTimeout_lower : recordByte (contextRecord c) 8 = c.gapTimeout.extractLsb' 0 8 :=
  (recordByte_contextRecord_word c (k := 2) (by decide) 0).trans (byteOf_packWord_0 ..)

theorem contextRecord_gapTimeout_upper : recordByte (contextRecord c) 9 = c.gapTimeout.extractLsb' 8 8 :=
  (recordByte_contextRecord_word c (k := 2) (by decide) 1).trans (byteOf_packWord_1 ..)

theorem contextRecord_generation : recordByte (contextRecord c) 10 = c.generation :=
  (recordByte_contextRecord_word c (k := 2) (by decide) 2).trans (byteOf_packWord_2 ..)

theorem contextRecord_byte11 : recordByte (contextRecord c) 11 = 0 :=
  (recordByte_contextRecord_word c (k := 2) (by decide) 3).trans (byteOf_packWord_3 ..)

/-- R198: words w8 to w23 hold the chaining state. -/
theorem contextWord_chaining {m : Nat} (hm : m < 16) :
    contextWord c (8 + m) = packWord (c.chaining.toList.getD (4 * m + 0) 0) (c.chaining.toList.getD (4 * m + 1) 0)
      (c.chaining.toList.getD (4 * m + 2) 0) (c.chaining.toList.getD (4 * m + 3) 0) := by
  have hnot : ∀ k, k ≤ 6 → ¬ 8 + m = k := fun k hk => by omega
  have hsub : 8 + m - 8 = m := by omega
  unfold contextWord
  rw [if_neg (hnot 0 (by decide)), if_neg (hnot 1 (by decide)), if_neg (hnot 2 (by decide)),
    if_neg (hnot 3 (by decide)), if_neg (hnot 4 (by decide)), if_neg (hnot 5 (by decide)), if_neg (hnot 6 (by decide)),
    if_pos (show 8 ≤ 8 + m ∧ 8 + m < 24 by omega)]
  simp only [hsub]

/-- R198: words w24 to w55 hold the residue. -/
theorem contextWord_residue {m : Nat} (hm : m < 32) :
    contextWord c (24 + m) = packWord (c.residue.getD (4 * m + 0) 0) (c.residue.getD (4 * m + 1) 0)
      (c.residue.getD (4 * m + 2) 0) (c.residue.getD (4 * m + 3) 0) := by
  have hnot : ∀ k, k ≤ 6 → ¬ 24 + m = k := fun k hk => by omega
  have hsub : 24 + m - 24 = m := by omega
  unfold contextWord
  rw [if_neg (hnot 0 (by decide)), if_neg (hnot 1 (by decide)), if_neg (hnot 2 (by decide)),
    if_neg (hnot 3 (by decide)), if_neg (hnot 4 (by decide)), if_neg (hnot 5 (by decide)), if_neg (hnot 6 (by decide)),
    if_neg (show ¬ (8 ≤ 24 + m ∧ 24 + m < 24) by omega), if_pos (show 24 ≤ 24 + m ∧ 24 + m < 56 by omega)]
  simp only [hsub]

/-- R198: the other words are 0. -/
theorem contextWord_zero {k : Nat} (hk : k = 7 ∨ 56 ≤ k) : contextWord c k = 0 := by
  have hnot : ∀ j, j ≤ 6 → ¬ k = j := fun j hj => by omega
  unfold contextWord
  rw [if_neg (hnot 0 (by decide)), if_neg (hnot 1 (by decide)), if_neg (hnot 2 (by decide)),
    if_neg (hnot 3 (by decide)), if_neg (hnot 4 (by decide)), if_neg (hnot 5 (by decide)), if_neg (hnot 6 (by decide)),
    if_neg (show ¬ (8 ≤ k ∧ k < 24) by omega), if_neg (show ¬ (24 ≤ k ∧ k < 56) by omega)]

theorem contextRecord_chaining {j : Nat} (hj : j < 64) :
    recordByte (contextRecord c) (32 + j) = c.chaining.toList.getD j 0 := by
  have hbyte := byteOf_packWord (fun i => c.chaining.toList.getD (4 * (j / 4) + i) 0) ⟨j % 4, Nat.mod_lt _ (by decide)⟩
  rw [recordByte_contextRecord c (by omega), show (32 + j) / 4 = 8 + j / 4 by omega, show (32 + j) % 4 = j % 4 by omega,
    contextWord_chaining c (by omega), hbyte, Nat.div_add_mod]

theorem contextRecord_residue {j : Nat} (hj : j < 128) :
    recordByte (contextRecord c) (96 + j) = c.residue.getD j 0 := by
  have hbyte := byteOf_packWord (fun i => c.residue.getD (4 * (j / 4) + i) 0) ⟨j % 4, Nat.mod_lt _ (by decide)⟩
  rw [recordByte_contextRecord c (by omega), show (96 + j) / 4 = 24 + j / 4 by omega,
    show (96 + j) % 4 = j % 4 by omega, contextWord_residue c (by omega), hbyte, Nat.div_add_mod]

/-! ### The exported record read back (R152) -/

theorem recordAlgorithm_contextRecord {alg : Algorithm} (halg : c.algorithm = some alg) :
    recordAlgorithm (contextRecord c) = some alg := by
  rw [recordAlgorithm, contextRecord_algorithm, halg]
  cases alg <;> rfl

theorem recordHoldLimit_contextRecord (hhold : c.holdLimit ≤ 16) : recordHoldLimit (contextRecord c) = c.holdLimit := by
  rw [recordHoldLimit, contextRecord_holdLimit, BitVec.toNat_ofNat]
  omega

theorem recordResidueLength_contextRecord (hlength : c.residue.length ≤ 128) :
    recordResidueLength (contextRecord c) = c.residue.length := by
  rw [recordResidueLength, contextRecord_residueLength, BitVec.toNat_ofNat]
  omega

theorem recordEndPresent_contextRecord : recordEndPresent (contextRecord c) = c.declaredEnd.isSome := by
  rw [recordEndPresent, contextRecord_endFlag]
  generalize c.declaredEnd.isSome = present
  cases present <;> decide

theorem recordGapTimeout_contextRecord : recordGapTimeout (contextRecord c) = c.gapTimeout := by
  rw [recordGapTimeout, contextRecord_gapTimeout_lower, contextRecord_gapTimeout_upper]
  refine BitVec.eq_of_getLsbD_eq fun i hi => ?_
  simp only [BitVec.getLsbD_append, BitVec.getLsbD_extractLsb']
  split
  next h => simp [h]
  next h => simp [show i - 8 < 8 by omega, show 8 + (i - 8) = i by omega]

theorem recordAbsorbed_contextRecord (habsorbed : c.absorbed ≤ 2 ^ 48) :
    recordAbsorbed (contextRecord c) = c.absorbed := by
  rw [recordAbsorbed, recordWord_contextRecord c (by decide), recordWord_contextRecord c (by decide)]
  exact wide_lowerWord_upperWord (by omega)

theorem recordDeclaredEnd_contextRecord (hend : c.declaredEnd.getD 0 ≤ 2 ^ 48) :
    recordDeclaredEnd (contextRecord c) = c.declaredEnd.getD 0 := by
  rw [recordDeclaredEnd, recordWord_contextRecord c (by decide), recordWord_contextRecord c (by decide)]
  exact wide_lowerWord_upperWord (by omega)

theorem recordResidue_contextRecord (hlength : c.residue.length ≤ 128) :
    recordResidue (contextRecord c) = c.residue := by
  refine List.ext_getElem ?_ fun i hi hi' => ?_
  · rw [length_recordResidue, recordResidueLength_contextRecord c hlength]
  · simp only [recordResidue, List.getElem_map, List.getElem_range]
    rw [contextRecord_residue c (by omega), List.getD_eq_getElem _ _ hi']

theorem recordChaining_contextRecord : recordChaining (contextRecord c) = c.chaining := by
  refine Vector.ext fun i hi => ?_
  rw [recordChaining, Vector.getElem_ofFn, contextRecord_chaining c hi]
  simp [List.getD, hi]

/-- R2, R7, R8, R122: what holds of the context of every stream that an EXPORT takes. -/
structure StreamContext.Exportable (alg : Algorithm) : Prop where
  algorithm : c.algorithm = some alg
  holdLimit : c.holdLimit ≤ 16
  residue_lt : c.residue.length < alg.blockSize
  residue_eq : c.absorbed % alg.blockSize = c.residue.length
  absorbed : c.absorbed ≤ 2 ^ 48
  declaredEnd : ∀ e, c.declaredEnd = some e → c.absorbed ≤ e ∧ e ≤ 2 ^ 48
  chaining : alg = .d256 → ∀ k : Fin 64, 32 ≤ k.val → c.chaining[k] = 0

variable {c} {alg : Algorithm}

theorem StreamContext.Exportable.residue_le (h : c.Exportable alg) : c.residue.length ≤ 128 := by
  have hlt := h.residue_lt
  cases alg <;> simp only [Algorithm.blockSize] at hlt <;> omega

theorem StreamContext.Exportable.end_le (h : c.Exportable alg) : c.declaredEnd.getD 0 ≤ 2 ^ 48 := by
  cases hend : c.declaredEnd with
  | none => exact Nat.zero_le _
  | some e => exact (h.declaredEnd e hend).2

theorem algorithmConditions_contextRecord (h : c.Exportable alg) : algorithmConditions (contextRecord c) := by
  refine ⟨alg, recordAlgorithm_contextRecord c h.algorithm, ?_, ?_, ?_⟩
  · rw [recordResidueLength_contextRecord c h.residue_le]; exact h.residue_lt
  · rw [recordResidueLength_contextRecord c h.residue_le, recordAbsorbed_contextRecord c h.absorbed]
    exact h.residue_eq
  · cases halg : alg with
    | d512 => exact .inl rfl
    | d256 =>
      refine .inr fun k hk => ?_
      have hzero := h.chaining halg ⟨32 + k, by omega⟩ (Nat.le_add_right 32 k)
      have hbyte := contextRecord_chaining c (j := 32 + k) (by omega)
      rw [show 32 + (32 + k) = 64 + k by omega] at hbyte
      rw [hbyte, ← hzero]
      simp [List.getD, show 32 + k < 64 by omega]

theorem endConditions_contextRecord (h : c.Exportable alg) : endConditions (contextRecord c) := by
  rw [endConditions_iff, recordEndPresent_contextRecord, recordDeclaredEnd_contextRecord c h.end_le,
    recordAbsorbed_contextRecord c h.absorbed, recordWord_contextRecord c (by decide),
    recordWord_contextRecord c (by decide)]
  cases hend : c.declaredEnd with
  | none => exact ⟨fun hsome => by simp at hsome, fun _ => by simp [contextWord, hend, lowerWord, upperWord]⟩
  | some e => exact ⟨fun _ => h.declaredEnd e hend, fun hnone => by simp at hnone⟩

/-- R151: the record that an EXPORT builds is valid. -/
theorem recordValid_contextRecord (h : c.Exportable alg) : recordValid (contextRecord c) = true := by
  refine (recordValid_iff _).2 ⟨recordWord_contextRecord c (by decide), algorithmConditions_contextRecord h, ?_, ?_, ?_,
    endConditions_contextRecord h, contextRecord_byte11 c, ?_, ?_, ?_, ?_⟩
  · rw [recordHoldLimit_contextRecord c h.holdLimit]; exact h.holdLimit
  · rw [recordAbsorbed_contextRecord c h.absorbed]; exact h.absorbed
  · rw [contextRecord_endFlag]; split <;> rfl
  · rw [recordWord_contextRecord c (by decide), contextWord_zero c (.inl rfl)]
  · intro k hk
    rw [recordWord_contextRecord c (by omega), contextWord_zero c (.inr (by omega))]
  · intro i hi
    rw [recordResidueLength_contextRecord c h.residue_le, contextRecord_residue c hi]
    exact (Nat.lt_or_ge i c.residue.length).imp_right fun hle => by simp [List.getD, hle]
  · rw [recordWord_contextRecord_check]
    exact checkWord_congr fun k hk => (recordWord_contextRecord c hk).symm

/-- R152: importing an exported record gives every carried field back. -/
theorem importedContext_contextRecord (h : c.Exportable alg) (generation : BitVec 8) :
    importedContext (contextRecord c) generation =
      { freeContext generation with
        state := if c.declaredEnd = some c.absorbed then .ending else .opened
        algorithm := some alg
        holdLimit := c.holdLimit
        gapTimeout := c.gapTimeout
        declaredEnd := c.declaredEnd
        frontier := c.absorbed
        absorbed := c.absorbed
        residue := c.residue
        chaining := c.chaining
        inFlight := if c.declaredEnd = some c.absorbed then 1 else 0 } := by
  have hend : (if recordEndPresent (contextRecord c) = true then some (recordDeclaredEnd (contextRecord c)) else none) =
      c.declaredEnd := by
    rw [recordEndPresent_contextRecord, recordDeclaredEnd_contextRecord c h.end_le]
    cases c.declaredEnd <;> rfl
  have hatEnd : (recordEndPresent (contextRecord c) = true ∧
      recordDeclaredEnd (contextRecord c) = c.absorbed) ↔ c.declaredEnd = some c.absorbed := by
    have hiff := recordAtEnd_iff (contextRecord c)
    rw [hend, recordAbsorbed_contextRecord c h.absorbed] at hiff
    exact hiff.symm
  simp only [importedContext_eq, hatEnd, hend, recordAlgorithm_contextRecord c h.algorithm,
    recordHoldLimit_contextRecord c h.holdLimit, recordGapTimeout_contextRecord,
    recordAbsorbed_contextRecord c h.absorbed, recordResidue_contextRecord c h.residue_le, recordChaining_contextRecord]

end

/-! ### The statement -/

/-- R151: a record of zeros has no tag. -/
theorem recordValid_zeros : recordValid (Vector.replicate 256 0) = false := by
  rw [Bool.eq_false_iff]
  intro hvalid
  obtain ⟨htag, -⟩ := (recordValid_iff _).1 hvalid
  have hzero : recordWord (Vector.replicate 256 0) 0 = 0 := by
    refine recordWord_of_bytes fun i => ?_
    rw [recordByte_eq_getElem _ (by omega), Vector.getElem_replicate]
    exact BitVec.extractLsb'_zero.symm
  rw [hzero] at htag
  exact absurd htag (by decide)

/-- R152, R198: the context that a record makes, written on its words. -/
theorem importedContext_eq_words (r : Vector Byte 256) (generation : BitVec 8) :
    importedContext r generation =
      { freeContext generation with
        state := if (recordWord r 1).getLsbD 24 = true ∧ recordDeclaredEnd r = recordAbsorbed r then .ending
                 else .opened
        algorithm := if (recordWord r 1).extractLsb' 0 8 = 1 then some .d256
                     else if (recordWord r 1).extractLsb' 0 8 = 2 then some .d512 else none
        holdLimit := ((recordWord r 1).extractLsb' 8 8).toNat
        gapTimeout := (recordWord r 2).extractLsb' 0 16
        declaredEnd := if (recordWord r 1).getLsbD 24 = true then some (recordDeclaredEnd r) else none
        frontier := recordAbsorbed r
        absorbed := recordAbsorbed r
        residue := recordResidue r
        chaining := recordChaining r
        inFlight := if (recordWord r 1).getLsbD 24 = true ∧ recordDeclaredEnd r = recordAbsorbed r then 1 else 0 } := by
  rw [recordWord_endPresent, recordWord_algorithm, recordWord_holdLimit, recordWord_gapTimeout]
  exact importedContext_eq r generation

/-- Settles O55. -/
theorem contextRecordRoundTrips : Obligations.ContextRecordRoundTrips := by
  refine ⟨fun c alg generation halg hhold hresidue hmod habsorbed hend hchaining => ?_,
    fun w v k hk hne hsame => checkWord_ne_of_change hk hne hsame, by decide, recordValid_zeros, fun c => ?_,
    fun r => ⟨recordValid_iff_words r, fun generation => ?_⟩⟩
  · have h : c.Exportable alg := ⟨halg, hhold, hresidue, hmod, habsorbed, hend, hchaining⟩
    exact ⟨recordValid_contextRecord h, importedContext_contextRecord h generation⟩
  · rw [← recordByte_eq_getElem _ (by decide), contextRecord_generation]
  · refine ⟨importedContext_eq_words r generation, ?_, fun i hi => ?_, fun k => ?_⟩
    · exact (length_recordResidue r).trans (congrArg BitVec.toNat (recordWord_residueLength r).symm)
    · exact getD_recordResidue r (hi.trans_eq (congrArg BitVec.toNat (recordWord_residueLength r)))
    · exact Vector.getElem_ofFn _

end Sys2Proof.Machine
end
